-- ==== Sys2Proof/Word.lean ====
section
/-! DEFINITION. Words, vectors and index types (spec/00_scope.md R8-R11, spec/20_memory.md R51). -/
namespace Sys2Proof

/-- A byte of the state image (R53). -/
abbrev Byte := BitVec 8

/-- `Word16` of R9: one lane, or a packed flag register. -/
abbrev Word16 := BitVec 16

/-- A command word or an instruction word (R70, R76). -/
abbrev Word32 := BitVec 32

/-- `Word48` of R9: one accumulator lane. -/
abbrev Word48 := BitVec 48

/-- `Vec` of R10: eight lanes, lane 0 first. -/
abbrev Vec := Vector Word16 8

/-- `MaybeVec` of R10: eight lanes, `none` where the lane is unwritten. -/
abbrev MaybeVec := Vector (Option Word16) 8

/-- A vector register number, 5 bits, every value valid (R23, R51). -/
abbrev VReg := Fin 32

/-- A lane number, 3 bits, lane 0 most significant (R21, R51). -/
abbrev Lane := Fin 8

/-- An element code, 4 bits, every value valid (R51, R147). -/
abbrev ElementCode := Fin 16

/-- A dispatch slot, 6 bits, every value valid (R51, R80). -/
abbrev SlotIndex := Fin 64

end Sys2Proof
end

