-- ==== Sys2Proof/Config.lean ====
section
/-! DEFINITION. Configuration of an instance (spec/10_state.md R40), the handler calling convention
(spec/44_dispatch.md R182), and the values the spec leaves free. -/
namespace Sys2Proof

/-- `RESET_POLICY` (R8, R43). -/
inductive ResetPolicy where
  | unwritten
  | zero
deriving DecidableEq, Repr

/-- Rows 2 to 15 of `ELEMENT_TABLE` (R142). Rows 0 and 1 are fixed and not part of the parameter (R141). -/
abbrev ElementRows := Vector (Vector Lane 8) 14

/-- `HandlerIn` of R182. `none` stands for an unwritten element. -/
structure HandlerIn where
  /-- The instruction word, whole (R186). -/
  iw : Word32
  /-- `VR[vd]` before the write. -/
  dest : MaybeVec
  /-- `VR[vt]`, shuffled once by the element code (R187). -/
  shuffled : MaybeVec
  /-- `VR[vs]`, unshuffled. -/
  raw : MaybeVec
  acc : Vector (Option Word48) 8
  vco : Vector (Option Bool) 16
  vcc : Vector (Option Bool) 16
  vce : Vector (Option Bool) 8
deriving DecidableEq, Repr

/-- `HandlerOut` of R182: `some` writes, `none` leaves unchanged. -/
structure HandlerOut where
  result : Vec
  acc : Vector (Option Word48) 8
  vco : Option Word16
  vcc : Option Word16
  vce : Option (BitVec 8)
deriving DecidableEq, Repr

/-- The reason a handler gives for its fault (R182 names the type and gives no list; R188 uses one reason).
DESIGN CHOICE (log 11): every other reason is a number. -/
inductive HandlerFaultReason where
  | readBeforeWrite
  | other (code : Nat)
deriving DecidableEq, Repr

/-- What a handler answers (R182). -/
inductive HandlerResult where
  | fault (reason : HandlerFaultReason)
  | ok (out : HandlerOut)
deriving DecidableEq, Repr

/-- A handler of R182: a total function of its input. -/
abbrev Handler := HandlerIn → HandlerResult

/-- A handler written as plain data: a list of cases and an answer for every other input.
`HandlerIn` is a finite type, so every handler can be written so (log 9). -/
structure HandlerData where
  cases : List (HandlerIn × HandlerResult)
  otherwise : HandlerResult
deriving DecidableEq, Repr

/-- One entry of `HANDLERS` (R181). -/
inductive SlotEntry where
  /-- The entry the collaborating module left there, of which the spec says nothing: `Config.externalHandler`. -/
  | external
  /-- No handler: DISPATCH reports it (R202). -/
  | unimplemented
  /-- A given handler. -/
  | given (h : HandlerData)
deriving DecidableEq, Repr

/-- The configuration of one instance that can be written as data (R40). -/
structure Config where
  resetPolicy : ResetPolicy
  elementRows : ElementRows
  handlers : Vector SlotEntry 64
deriving DecidableEq, Repr

/-- The default rows 2 to 15 of R142. PRESUMED by the spec itself ("from general knowledge", 92 D12; log 8). -/
def Config.defaultElementRows : ElementRows :=
  #v[#v[0, 0, 2, 2, 4, 4, 6, 6],
     #v[1, 1, 3, 3, 5, 5, 7, 7],
     #v[0, 0, 0, 0, 4, 4, 4, 4],
     #v[1, 1, 1, 1, 5, 5, 5, 5],
     #v[2, 2, 2, 2, 6, 6, 6, 6],
     #v[3, 3, 3, 3, 7, 7, 7, 7],
     #v[0, 0, 0, 0, 0, 0, 0, 0],
     #v[1, 1, 1, 1, 1, 1, 1, 1],
     #v[2, 2, 2, 2, 2, 2, 2, 2],
     #v[3, 3, 3, 3, 3, 3, 3, 3],
     #v[4, 4, 4, 4, 4, 4, 4, 4],
     #v[5, 5, 5, 5, 5, 5, 5, 5],
     #v[6, 6, 6, 6, 6, 6, 6, 6],
     #v[7, 7, 7, 7, 7, 7, 7, 7]]

/-- The configuration at reset: the spec's default policy (R8) and table (R142), and a handler table of
which nothing is assumed (R181, log 9). -/
def Config.default : Config where
  resetPolicy := .unwritten
  elementRows := Config.defaultElementRows
  handlers := Vector.replicate 64 .external

/-- FREE VALUE (log 9): the `external` entry of each slot, `none` for `Unimplemented` (R181, R189). -/
opaque Config.externalHandler : SlotIndex → Option Handler

/-- FREE VALUE (log 10): `DIAG_TEXT(slot, iw)`; no claim may depend on its characters (R203). -/
opaque Config.diagText : SlotIndex → Word32 → String

/-- FREE VALUE (log 2): whether a second fault (or refusal) replaces the one on record.
R204 says only that the record stays set. -/
opaque Config.laterReportReplaces : Bool

end Sys2Proof
end

