-- ==== Sys2Proof/Syntax.lean ====
section
/-! DEFINITION. The instructions: one constructor for each row of spec/opcode_table.json, and the
pseudo-instructions of spec/30_encoding.md R85. -/
namespace Sys2Proof

/-- The fields of an instruction word other than its slot (R77). -/
structure IwOperands where
  /-- Bits 31:25, not examined by the block (R78); a handler sees them in the whole word (R186). -/
  major : BitVec 7
  /-- Bits 24:21, the element code applied to `vt`. -/
  e : ElementCode
  /-- Bits 20:16, the shuffled operand. -/
  vt : VReg
  /-- Bits 15:11, the raw operand. -/
  vs : VReg
  /-- Bits 10:6, the destination. -/
  vd : VReg
deriving DecidableEq, Repr

/-- The 34 commands of R73, then the 64 slots of an instruction word of R81 (`iw...`), which a DISPATCH
command runs (R180). -/
inductive Instr where
  /-- VCOPY (R121). -/
  | vcopy (rd : VReg) (rs : VReg)
  /-- VWIPE (R122). -/
  | vwipe (rd : VReg)
  /-- VFILL (R123). -/
  | vfill (rd : VReg)
  /-- VAND (R124). -/
  | vand (rd : VReg) (rs : VReg)
  /-- VOR (R125). -/
  | vor (rd : VReg) (rs : VReg)
  /-- VXOR (R126). -/
  | vxor (rd : VReg) (rs : VReg)
  /-- VCMPLT (R127). -/
  | vcmplt (rd : VReg) (rs : VReg)
  /-- VCMPEQ (R128). -/
  | vcmpeq (rd : VReg) (rs : VReg)
  /-- VCMPGT (R129). -/
  | vcmpgt (rd : VReg) (rs : VReg)
  /-- VSHUF (R140). -/
  | vshuf (rd : VReg) (rs : VReg) (e : ElementCode)
  /-- VREAD (R100). -/
  | vread (rs : VReg)
  /-- VWRITE (R101). -/
  | vwrite (rd : VReg)
  /-- GETVCO (R150). -/
  | getvco
  /-- GETVCC (R151). -/
  | getvcc
  /-- GETVCE (R152). -/
  | getvce
  /-- SETVCO (R153). -/
  | setvco
  /-- SETVCC (R154). -/
  | setvcc
  /-- SETVCE (R155). -/
  | setvce
  /-- XRD.CO (R157). -/
  | xrdCo (rd : VReg)
  /-- XRD.NE (R158). -/
  | xrdNe (rd : VReg)
  /-- XRD.LT (R159). -/
  | xrdLt (rd : VReg)
  /-- XRD.GE (R160). -/
  | xrdGe (rd : VReg)
  /-- XRD.CE (R161). -/
  | xrdCe (rd : VReg)
  /-- XWR.CO (R162). -/
  | xwrCo (rs : VReg)
  /-- XWR.NE (R163). -/
  | xwrNe (rs : VReg)
  /-- XWR.LT (R164). -/
  | xwrLt (rs : VReg)
  /-- XWR.GE (R165). -/
  | xwrGe (rs : VReg)
  /-- XWR.CE (R166). -/
  | xwrCe (rs : VReg)
  /-- ACCRD (R102). -/
  | accrd
  /-- ACCWR (R103). -/
  | accwr
  /-- ACCRDL (R104). -/
  | accrdl (lane : Lane)
  /-- ACCWRL (R105). -/
  | accwrl (lane : Lane)
  /-- DISPATCH (R180). -/
  | dispatch
  /-- RESET (R220). -/
  | reset
  /-- IW.VMULF, slot 0 (R81, R180). -/
  | iwVmulf (f : IwOperands)
  /-- IW.VMULU, slot 1 (R81, R180). -/
  | iwVmulu (f : IwOperands)
  /-- IW.VRNDP, slot 2 (R81, R180). -/
  | iwVrndp (f : IwOperands)
  /-- IW.VMULQ, slot 3 (R81, R180). -/
  | iwVmulq (f : IwOperands)
  /-- IW.VMUDL, slot 4 (R81, R180). -/
  | iwVmudl (f : IwOperands)
  /-- IW.VMUDM, slot 5 (R81, R180). -/
  | iwVmudm (f : IwOperands)
  /-- IW.VMUDN, slot 6 (R81, R180). -/
  | iwVmudn (f : IwOperands)
  /-- IW.VMUDH, slot 7 (R81, R180). -/
  | iwVmudh (f : IwOperands)
  /-- IW.VMACF, slot 8 (R81, R180). -/
  | iwVmacf (f : IwOperands)
  /-- IW.VMACU, slot 9 (R81, R180). -/
  | iwVmacu (f : IwOperands)
  /-- IW.VRNDN, slot 10 (R81, R180). -/
  | iwVrndn (f : IwOperands)
  /-- IW.VMACQ, slot 11 (R81, R180). -/
  | iwVmacq (f : IwOperands)
  /-- IW.VMADL, slot 12 (R81, R180). -/
  | iwVmadl (f : IwOperands)
  /-- IW.VMADM, slot 13 (R81, R180). -/
  | iwVmadm (f : IwOperands)
  /-- IW.VMADN, slot 14 (R81, R180). -/
  | iwVmadn (f : IwOperands)
  /-- IW.VMADH, slot 15 (R81, R180). -/
  | iwVmadh (f : IwOperands)
  /-- IW.VADD, slot 16 (R81, R180). -/
  | iwVadd (f : IwOperands)
  /-- IW.VSUB, slot 17 (R81, R180). -/
  | iwVsub (f : IwOperands)
  /-- IW.VSUT, slot 18 (R81, R180). -/
  | iwVsut (f : IwOperands)
  /-- IW.VABS, slot 19 (R81, R180). -/
  | iwVabs (f : IwOperands)
  /-- IW.VADDC, slot 20 (R81, R180). -/
  | iwVaddc (f : IwOperands)
  /-- IW.VSUBC, slot 21 (R81, R180). -/
  | iwVsubc (f : IwOperands)
  /-- IW.VADDB, slot 22 (R81, R180). -/
  | iwVaddb (f : IwOperands)
  /-- IW.VSUBB, slot 23 (R81, R180). -/
  | iwVsubb (f : IwOperands)
  /-- IW.VACCB, slot 24 (R81, R180). -/
  | iwVaccb (f : IwOperands)
  /-- IW.VSUCB, slot 25 (R81, R180). -/
  | iwVsucb (f : IwOperands)
  /-- IW.VSAD, slot 26 (R81, R180). -/
  | iwVsad (f : IwOperands)
  /-- IW.VSAC, slot 27 (R81, R180). -/
  | iwVsac (f : IwOperands)
  /-- IW.VSUM, slot 28 (R81, R180). -/
  | iwVsum (f : IwOperands)
  /-- IW.VSAR, slot 29 (R81, R180). -/
  | iwVsar (f : IwOperands)
  /-- IW.V30, slot 30 (R81, R180). -/
  | iwV30 (f : IwOperands)
  /-- IW.V31, slot 31 (R81, R180). -/
  | iwV31 (f : IwOperands)
  /-- IW.VLT, slot 32 (R81, R180). -/
  | iwVlt (f : IwOperands)
  /-- IW.VEQ, slot 33 (R81, R180). -/
  | iwVeq (f : IwOperands)
  /-- IW.VNE, slot 34 (R81, R180). -/
  | iwVne (f : IwOperands)
  /-- IW.VGE, slot 35 (R81, R180). -/
  | iwVge (f : IwOperands)
  /-- IW.VCL, slot 36 (R81, R180). -/
  | iwVcl (f : IwOperands)
  /-- IW.VCH, slot 37 (R81, R180). -/
  | iwVch (f : IwOperands)
  /-- IW.VCR, slot 38 (R81, R180). -/
  | iwVcr (f : IwOperands)
  /-- IW.VMRG, slot 39 (R81, R180). -/
  | iwVmrg (f : IwOperands)
  /-- IW.VAND, slot 40 (R81, R180). -/
  | iwVand (f : IwOperands)
  /-- IW.VNAND, slot 41 (R81, R180). -/
  | iwVnand (f : IwOperands)
  /-- IW.VOR, slot 42 (R81, R180). -/
  | iwVor (f : IwOperands)
  /-- IW.VNOR, slot 43 (R81, R180). -/
  | iwVnor (f : IwOperands)
  /-- IW.VXOR, slot 44 (R81, R180). -/
  | iwVxor (f : IwOperands)
  /-- IW.VNXOR, slot 45 (R81, R180). -/
  | iwVnxor (f : IwOperands)
  /-- IW.V46, slot 46 (R81, R180). -/
  | iwV46 (f : IwOperands)
  /-- IW.V47, slot 47 (R81, R180). -/
  | iwV47 (f : IwOperands)
  /-- IW.VRCP, slot 48 (R81, R180). -/
  | iwVrcp (f : IwOperands)
  /-- IW.VRCPL, slot 49 (R81, R180). -/
  | iwVrcpl (f : IwOperands)
  /-- IW.VRCPH, slot 50 (R81, R180). -/
  | iwVrcph (f : IwOperands)
  /-- IW.VMOV, slot 51 (R81, R180). -/
  | iwVmov (f : IwOperands)
  /-- IW.VRSQ, slot 52 (R81, R180). -/
  | iwVrsq (f : IwOperands)
  /-- IW.VRSQL, slot 53 (R81, R180). -/
  | iwVrsql (f : IwOperands)
  /-- IW.VRSQH, slot 54 (R81, R180). -/
  | iwVrsqh (f : IwOperands)
  /-- IW.VNOP, slot 55 (R81, R180). -/
  | iwVnop (f : IwOperands)
  /-- IW.VEXTT, slot 56 (R81, R180). -/
  | iwVextt (f : IwOperands)
  /-- IW.VEXTQ, slot 57 (R81, R180). -/
  | iwVextq (f : IwOperands)
  /-- IW.VEXTN, slot 58 (R81, R180). -/
  | iwVextn (f : IwOperands)
  /-- IW.V59, slot 59 (R81, R180). -/
  | iwV59 (f : IwOperands)
  /-- IW.VINST, slot 60 (R81, R180). -/
  | iwVinst (f : IwOperands)
  /-- IW.VINSQ, slot 61 (R81, R180). -/
  | iwVinsq (f : IwOperands)
  /-- IW.VINSN, slot 62 (R81, R180). -/
  | iwVinsn (f : IwOperands)
  /-- IW.VNULL, slot 63 (R81, R180). -/
  | iwVnull (f : IwOperands)
deriving DecidableEq, Repr

/-- The 64 slots in order (R81). -/
def Instr.slotTable : Vector (IwOperands → Instr) 64 :=
  #v[.iwVmulf, .iwVmulu, .iwVrndp, .iwVmulq, .iwVmudl, .iwVmudm, .iwVmudn, .iwVmudh,
     .iwVmacf, .iwVmacu, .iwVrndn, .iwVmacq, .iwVmadl, .iwVmadm, .iwVmadn, .iwVmadh,
     .iwVadd, .iwVsub, .iwVsut, .iwVabs, .iwVaddc, .iwVsubc, .iwVaddb, .iwVsubb,
     .iwVaccb, .iwVsucb, .iwVsad, .iwVsac, .iwVsum, .iwVsar, .iwV30, .iwV31,
     .iwVlt, .iwVeq, .iwVne, .iwVge, .iwVcl, .iwVch, .iwVcr, .iwVmrg,
     .iwVand, .iwVnand, .iwVor, .iwVnor, .iwVxor, .iwVnxor, .iwV46, .iwV47,
     .iwVrcp, .iwVrcpl, .iwVrcph, .iwVmov, .iwVrsq, .iwVrsql, .iwVrsqh, .iwVnop,
     .iwVextt, .iwVextq, .iwVextn, .iwV59, .iwVinst, .iwVinsq, .iwVinsn, .iwVnull]

/-- The instruction a slot number selects (R79, R80). -/
def Instr.ofSlot (k : SlotIndex) (f : IwOperands) : Instr :=
  Instr.slotTable[k] f

/-- The pseudo-instructions of R85. `vt` is a scratch register. -/
inductive Pseudo where
  | vcmpge (vd vs vt : VReg)
  | vcmple (vd vs vt : VReg)
  | vcmpne (vd vs vt : VReg)
  | vnot (vd vt : VReg)
  | vmov (vd vs : VReg)
  | vclr (vd : VReg)
deriving DecidableEq, Repr

end Sys2Proof
end

