-- ==== Sys2Proof/Decode.lean ====
section
/-! DEFINITION. The command word and the instruction word (spec/30_encoding.md R71-R74, R77-R80): decoding,
total and refusing by name, and encoding from the same tables. -/
namespace Sys2Proof

/-- The closed list of refusals (R201). -/
inductive CommandRefusal where
  /-- `op` is not in the table (R74). -/
  | reservedCommand (word : Word32)
  /-- A field the command does not use, or `z`, is not zero (R72). -/
  | nonZeroUnusedField (word : Word32)
  /-- The command comes from a second driver of the context (R38, R65). -/
  | sharedContext
deriving DecidableEq, Repr

/-- A word of one of the two formats (R71, R77). -/
inductive InstrWord where
  | command (w : Word32)
  | slotWord (w : Word32)
deriving DecidableEq, Repr

/-- The fields of a command word (R71). -/
structure CmdFields where
  op : BitVec 8
  rd : VReg
  rs : VReg
  e : ElementCode
  lane : Lane
  z : BitVec 7
deriving DecidableEq, Repr

/-- A row of the operation-code map (R73). -/
structure CmdRow where
  op : BitVec 8
  usesRd : Bool := false
  usesRs : Bool := false
  usesE : Bool := false
  usesLane : Bool := false
  make : CmdFields → Instr

/-- The field positions of R71. -/
def cmdFields (w : Word32) : CmdFields where
  op := w.extractLsb' 24 8
  rd := (w.extractLsb' 19 5).toFin
  rs := (w.extractLsb' 14 5).toFin
  e := (w.extractLsb' 10 4).toFin
  lane := (w.extractLsb' 7 3).toFin
  z := w.extractLsb' 0 7

def rowsElementwise : List CmdRow :=
  [{ op := 0x01, usesRd := true, usesRs := true, make := fun f => .vcopy f.rd f.rs },
   { op := 0x02, usesRd := true, make := fun f => .vwipe f.rd },
   { op := 0x03, usesRd := true, make := fun f => .vfill f.rd },
   { op := 0x04, usesRd := true, usesRs := true, make := fun f => .vand f.rd f.rs },
   { op := 0x05, usesRd := true, usesRs := true, make := fun f => .vor f.rd f.rs },
   { op := 0x06, usesRd := true, usesRs := true, make := fun f => .vxor f.rd f.rs },
   { op := 0x07, usesRd := true, usesRs := true, make := fun f => .vcmplt f.rd f.rs },
   { op := 0x08, usesRd := true, usesRs := true, make := fun f => .vcmpeq f.rd f.rs },
   { op := 0x09, usesRd := true, usesRs := true, make := fun f => .vcmpgt f.rd f.rs }]

def rowsRegister : List CmdRow :=
  [{ op := 0x10, usesRd := true, usesRs := true, usesE := true, make := fun f => .vshuf f.rd f.rs f.e },
   { op := 0x11, usesRs := true, make := fun f => .vread f.rs },
   { op := 0x12, usesRd := true, make := fun f => .vwrite f.rd }]

def rowsPackedFlag : List CmdRow :=
  [{ op := 0x20, make := fun _ => .getvco },
   { op := 0x21, make := fun _ => .getvcc },
   { op := 0x22, make := fun _ => .getvce },
   { op := 0x24, make := fun _ => .setvco },
   { op := 0x25, make := fun _ => .setvcc },
   { op := 0x26, make := fun _ => .setvce }]

def rowsExpandedFlag : List CmdRow :=
  [{ op := 0x30, usesRd := true, make := fun f => .xrdCo f.rd },
   { op := 0x31, usesRd := true, make := fun f => .xrdNe f.rd },
   { op := 0x32, usesRd := true, make := fun f => .xrdLt f.rd },
   { op := 0x33, usesRd := true, make := fun f => .xrdGe f.rd },
   { op := 0x34, usesRd := true, make := fun f => .xrdCe f.rd },
   { op := 0x38, usesRs := true, make := fun f => .xwrCo f.rs },
   { op := 0x39, usesRs := true, make := fun f => .xwrNe f.rs },
   { op := 0x3A, usesRs := true, make := fun f => .xwrLt f.rs },
   { op := 0x3B, usesRs := true, make := fun f => .xwrGe f.rs },
   { op := 0x3C, usesRs := true, make := fun f => .xwrCe f.rs }]

def rowsAccumulator : List CmdRow :=
  [{ op := 0x40, make := fun _ => .accrd },
   { op := 0x41, make := fun _ => .accwr },
   { op := 0x42, usesLane := true, make := fun f => .accrdl f.lane },
   { op := 0x43, usesLane := true, make := fun f => .accwrl f.lane }]

def rowsControl : List CmdRow :=
  [{ op := 0x50, make := fun _ => .dispatch },
   { op := 0x7F, make := fun _ => .reset }]

/-- The operation-code map of R73; every other `op` is reserved (R74). -/
def commandTable : List CmdRow :=
  rowsElementwise ++ rowsRegister ++ rowsPackedFlag ++ rowsExpandedFlag ++ rowsAccumulator ++ rowsControl

/-- Every field the row does not use is zero, and `z` is zero (R72). -/
def CmdRow.unusedZero (row : CmdRow) (f : CmdFields) : Bool :=
  (row.usesRd || f.rd == 0) && (row.usesRs || f.rs == 0) && (row.usesE || f.e == 0)
    && (row.usesLane || f.lane == 0) && f.z == 0

/-- Decode a command word: `ReservedCommand` before `NonZeroUnusedField` (R205). -/
def decodeCommand (w : Word32) : Except CommandRefusal Instr :=
  match commandTable.find? (fun row => row.op == (cmdFields w).op) with
  | none => .error (.reservedCommand w)
  | some row =>
    if row.unusedZero (cmdFields w) then .ok (row.make (cmdFields w)) else .error (.nonZeroUnusedField w)

/-- `IW[5:0]` (R77). -/
def slotOfWord (iw : Word32) : SlotIndex := (iw.extractLsb' 0 6).toFin

/-- The other fields of an instruction word (R77). -/
def operandsOfWord (iw : Word32) : IwOperands where
  major := iw.extractLsb' 25 7
  e := (iw.extractLsb' 21 4).toFin
  vt := (iw.extractLsb' 16 5).toFin
  vs := (iw.extractLsb' 11 5).toFin
  vd := (iw.extractLsb' 6 5).toFin

/-- Every instruction word decodes to exactly one slot (R80). -/
def decodeSlotWord (iw : Word32) : Instr := Instr.ofSlot (slotOfWord iw) (operandsOfWord iw)

/-- Decode a word of either format. -/
def decodeWord : InstrWord → Except CommandRefusal Instr
  | .command w => decodeCommand w
  | .slotWord w => .ok (decodeSlotWord w)

/-- The format a word of the opcode table is read in: a CMD row's if one matches, else an IW row's, whose
mask leaves every bit but the slot open. DESIGN CHOICE (log 13): the two formats are two word spaces. -/
def tableWord (w : Word32) : InstrWord :=
  match decodeCommand w with
  | .ok _ => .command w
  | .error _ => .slotWord w

/-- The instruction of the opcode table that the bits `w` stand for (log 13). -/
def decodeTableWord (nbits w : Nat) : Option Instr :=
  if nbits ≤ 32 then
    match decodeWord (tableWord (BitVec.ofNat 32 (w % 2 ^ nbits))) with
    | .ok i => some i
    | .error _ => none
  else none

/-- A command word from its fields, `z` zero (R71). -/
def cmdWord (op : BitVec 8) (rd rs : VReg) (e : ElementCode) (lane : Lane) : Word32 :=
  op ++ BitVec.ofFin (w := 5) rd ++ BitVec.ofFin (w := 5) rs ++ BitVec.ofFin (w := 4) e
    ++ BitVec.ofFin (w := 3) lane ++ 0#7

/-- An instruction word from its fields (R77). -/
def iwWord (k : SlotIndex) (f : IwOperands) : Word32 :=
  f.major ++ BitVec.ofFin (w := 4) f.e ++ BitVec.ofFin (w := 5) f.vt ++ BitVec.ofFin (w := 5) f.vs
    ++ BitVec.ofFin (w := 5) f.vd ++ BitVec.ofFin (w := 6) k

/-- The word of an instruction (R71-R73, R77, R81). -/
def encode : Instr → InstrWord
  | .vcopy rd rs => .command (cmdWord 0x01 rd rs 0 0)
  | .vwipe rd => .command (cmdWord 0x02 rd 0 0 0)
  | .vfill rd => .command (cmdWord 0x03 rd 0 0 0)
  | .vand rd rs => .command (cmdWord 0x04 rd rs 0 0)
  | .vor rd rs => .command (cmdWord 0x05 rd rs 0 0)
  | .vxor rd rs => .command (cmdWord 0x06 rd rs 0 0)
  | .vcmplt rd rs => .command (cmdWord 0x07 rd rs 0 0)
  | .vcmpeq rd rs => .command (cmdWord 0x08 rd rs 0 0)
  | .vcmpgt rd rs => .command (cmdWord 0x09 rd rs 0 0)
  | .vshuf rd rs e => .command (cmdWord 0x10 rd rs e 0)
  | .vread rs => .command (cmdWord 0x11 0 rs 0 0)
  | .vwrite rd => .command (cmdWord 0x12 rd 0 0 0)
  | .getvco => .command (cmdWord 0x20 0 0 0 0)
  | .getvcc => .command (cmdWord 0x21 0 0 0 0)
  | .getvce => .command (cmdWord 0x22 0 0 0 0)
  | .setvco => .command (cmdWord 0x24 0 0 0 0)
  | .setvcc => .command (cmdWord 0x25 0 0 0 0)
  | .setvce => .command (cmdWord 0x26 0 0 0 0)
  | .xrdCo rd => .command (cmdWord 0x30 rd 0 0 0)
  | .xrdNe rd => .command (cmdWord 0x31 rd 0 0 0)
  | .xrdLt rd => .command (cmdWord 0x32 rd 0 0 0)
  | .xrdGe rd => .command (cmdWord 0x33 rd 0 0 0)
  | .xrdCe rd => .command (cmdWord 0x34 rd 0 0 0)
  | .xwrCo rs => .command (cmdWord 0x38 0 rs 0 0)
  | .xwrNe rs => .command (cmdWord 0x39 0 rs 0 0)
  | .xwrLt rs => .command (cmdWord 0x3A 0 rs 0 0)
  | .xwrGe rs => .command (cmdWord 0x3B 0 rs 0 0)
  | .xwrCe rs => .command (cmdWord 0x3C 0 rs 0 0)
  | .accrd => .command (cmdWord 0x40 0 0 0 0)
  | .accwr => .command (cmdWord 0x41 0 0 0 0)
  | .accrdl lane => .command (cmdWord 0x42 0 0 0 lane)
  | .accwrl lane => .command (cmdWord 0x43 0 0 0 lane)
  | .dispatch => .command (cmdWord 0x50 0 0 0 0)
  | .reset => .command (cmdWord 0x7F 0 0 0 0)
  | .iwVmulf f => .slotWord (iwWord 0 f)
  | .iwVmulu f => .slotWord (iwWord 1 f)
  | .iwVrndp f => .slotWord (iwWord 2 f)
  | .iwVmulq f => .slotWord (iwWord 3 f)
  | .iwVmudl f => .slotWord (iwWord 4 f)
  | .iwVmudm f => .slotWord (iwWord 5 f)
  | .iwVmudn f => .slotWord (iwWord 6 f)
  | .iwVmudh f => .slotWord (iwWord 7 f)
  | .iwVmacf f => .slotWord (iwWord 8 f)
  | .iwVmacu f => .slotWord (iwWord 9 f)
  | .iwVrndn f => .slotWord (iwWord 10 f)
  | .iwVmacq f => .slotWord (iwWord 11 f)
  | .iwVmadl f => .slotWord (iwWord 12 f)
  | .iwVmadm f => .slotWord (iwWord 13 f)
  | .iwVmadn f => .slotWord (iwWord 14 f)
  | .iwVmadh f => .slotWord (iwWord 15 f)
  | .iwVadd f => .slotWord (iwWord 16 f)
  | .iwVsub f => .slotWord (iwWord 17 f)
  | .iwVsut f => .slotWord (iwWord 18 f)
  | .iwVabs f => .slotWord (iwWord 19 f)
  | .iwVaddc f => .slotWord (iwWord 20 f)
  | .iwVsubc f => .slotWord (iwWord 21 f)
  | .iwVaddb f => .slotWord (iwWord 22 f)
  | .iwVsubb f => .slotWord (iwWord 23 f)
  | .iwVaccb f => .slotWord (iwWord 24 f)
  | .iwVsucb f => .slotWord (iwWord 25 f)
  | .iwVsad f => .slotWord (iwWord 26 f)
  | .iwVsac f => .slotWord (iwWord 27 f)
  | .iwVsum f => .slotWord (iwWord 28 f)
  | .iwVsar f => .slotWord (iwWord 29 f)
  | .iwV30 f => .slotWord (iwWord 30 f)
  | .iwV31 f => .slotWord (iwWord 31 f)
  | .iwVlt f => .slotWord (iwWord 32 f)
  | .iwVeq f => .slotWord (iwWord 33 f)
  | .iwVne f => .slotWord (iwWord 34 f)
  | .iwVge f => .slotWord (iwWord 35 f)
  | .iwVcl f => .slotWord (iwWord 36 f)
  | .iwVch f => .slotWord (iwWord 37 f)
  | .iwVcr f => .slotWord (iwWord 38 f)
  | .iwVmrg f => .slotWord (iwWord 39 f)
  | .iwVand f => .slotWord (iwWord 40 f)
  | .iwVnand f => .slotWord (iwWord 41 f)
  | .iwVor f => .slotWord (iwWord 42 f)
  | .iwVnor f => .slotWord (iwWord 43 f)
  | .iwVxor f => .slotWord (iwWord 44 f)
  | .iwVnxor f => .slotWord (iwWord 45 f)
  | .iwV46 f => .slotWord (iwWord 46 f)
  | .iwV47 f => .slotWord (iwWord 47 f)
  | .iwVrcp f => .slotWord (iwWord 48 f)
  | .iwVrcpl f => .slotWord (iwWord 49 f)
  | .iwVrcph f => .slotWord (iwWord 50 f)
  | .iwVmov f => .slotWord (iwWord 51 f)
  | .iwVrsq f => .slotWord (iwWord 52 f)
  | .iwVrsql f => .slotWord (iwWord 53 f)
  | .iwVrsqh f => .slotWord (iwWord 54 f)
  | .iwVnop f => .slotWord (iwWord 55 f)
  | .iwVextt f => .slotWord (iwWord 56 f)
  | .iwVextq f => .slotWord (iwWord 57 f)
  | .iwVextn f => .slotWord (iwWord 58 f)
  | .iwV59 f => .slotWord (iwWord 59 f)
  | .iwVinst f => .slotWord (iwWord 60 f)
  | .iwVinsq f => .slotWord (iwWord 61 f)
  | .iwVinsn f => .slotWord (iwWord 62 f)
  | .iwVnull f => .slotWord (iwWord 63 f)

end Sys2Proof
end

