-- ==== Sys2Proof/Machine/State.lean ====
section
/-! DEFINITION. The state of one VU-CORE instance (spec/10_state.md R20-R45, spec/30_encoding.md R75) and the
state after creation or reset (R43, R221). -/
namespace Sys2Proof.Machine

/-- A state element that carries a written mark (R39), as a fault names it (R201). -/
inductive Element where
  | vr (r : VReg) (lane : Lane)
  | acc (lane : Lane)
  | vco (bit : Fin 16)
  | vcc (bit : Fin 16)
  | vce (bit : Fin 8)
deriving DecidableEq, Repr

/-- The closed list of faults a command can end in (R201). They are recorded in `State.fault`; the
machine goes on (R204, log 1). -/
inductive CommandFault where
  /-- A read of an element whose written mark is clear (R39). -/
  | readBeforeWrite (el : Element)
  /-- XWR.* with a mask lane that is neither all-ones nor all-zero (R169). -/
  | nonCanonicalFlagLane (r : VReg) (lane : Lane)
  /-- DISPATCH to a slot that holds no handler (R202). -/
  | unimplementedOpcode (slot : SlotIndex) (iw : Word32)
  /-- DISPATCH whose handler faults (R180). -/
  | handlerFault (slot : SlotIndex) (reason : HandlerFaultReason)
deriving DecidableEq, Repr

/-- What the `FAULT` port shows of the last command (R75, R201). -/
inductive Report where
  | fault (f : CommandFault)
  | refusal (q : CommandRefusal)
deriving DecidableEq, Repr

/-- The execution context (R37): register file, accumulator, packed flags, and the written marks (R45). -/
structure Context where
  /-- `VR` (R20). -/
  vr : Vector Vec 32
  /-- `ACC_H`, bits 47:32 of each lane (R24). -/
  accH : Vec
  /-- `ACC_M`, bits 31:16 of each lane (R24). -/
  accM : Vec
  /-- `ACC_L`, bits 15:0 of each lane (R24). -/
  accL : Vec
  /-- `VCO` = NE : CO (R29). -/
  vco : Word16
  /-- `VCC` = GE : LT (R30). -/
  vcc : Word16
  /-- `VCE` = CE (R31). -/
  vce : BitVec 8
  /-- `Wvr` (R39). -/
  wvr : Vector (Vector Bool 8) 32
  /-- `Wacc`: one mark for the three slices of a lane (R39). -/
  wacc : Vector Bool 8
  wvco : Vector Bool 16
  wvcc : Vector Bool 16
  wvce : Vector Bool 8
deriving DecidableEq, Repr

/-- The data-input ports (R75). -/
structure DataIn where
  v : BitVec 128 := 0
  p : Word16 := 0
  a : Word48 := 0
  acc : BitVec 384 := 0
  i : Word32 := 0
deriving DecidableEq, Repr

/-- The output ports (R75). `none`: the last command did not drive the port, which then holds no
defined value. -/
structure DataOut where
  v : Option (BitVec 128) := none
  p : Option Word16 := none
  a : Option Word48 := none
  acc : Option (BitVec 384) := none
  /-- The diagnostic sink (R203). -/
  diag : Option String := none
  /-- The `FAULT` port (R201). -/
  report : Option Report := none
deriving DecidableEq, Repr

/-- Who issues a command: the instance's one driver, or another (R65; log 12). -/
inductive Driver where
  | own
  | other
deriving DecidableEq, Repr

/-- One command as the host presents it: a word and the data ports (R70, R230). -/
structure Request where
  driver : Driver
  word : Word32
  din : DataIn
deriving DecidableEq, Repr

/-- One VU-CORE instance. -/
structure State where
  /-- Configuration, fixed for the life of the instance (R40). -/
  cfg : Config
  /-- The execution context (R37). -/
  ctx : Context
  /-- The sticky fault record (R45, R204). -/
  fault : Option CommandFault
  /-- The sticky refusal record (R45, R204). -/
  refused : Option CommandRefusal
  /-- The data presented with the command being executed (R75, R76). -/
  din : DataIn
  /-- The ports as the last command left them (R75). -/
  dout : DataOut
  /-- The MODEL's own: the commands the host has still to issue, the next one first (R232; log 3). -/
  pending : List Request
deriving DecidableEq, Repr

/-- Why the machine stops. -/
inductive Fault where
  /-- Raised by `step` alone, when the host has issued no further command: the block makes no progress of
  its own (93 U6, "stuck"). Safe: nothing is claimed of a machine that is given no command. -/
  | noCommand
deriving DecidableEq, Repr

/-- Why an instruction has no meaning. -/
inductive Refusal where
  /-- Raised by `exec` for an instruction without a meaning. Safe. No arm raises it now. -/
  | notModelled (mnemonic : String)
deriving DecidableEq, Repr

/-- A context at creation and after RESET (R43, R220, R221): every mark clear under `UNWRITTEN`, every element
zero and marked under `ZERO`. DESIGN CHOICE (log 7): the value stored under a clear mark is zero. -/
def Context.created (policy : ResetPolicy) : Context :=
  let mark := decide (policy = .zero)
  { vr := Vector.replicate 32 (Vector.replicate 8 0)
    accH := Vector.replicate 8 0
    accM := Vector.replicate 8 0
    accL := Vector.replicate 8 0
    vco := 0
    vcc := 0
    vce := 0
    wvr := Vector.replicate 32 (Vector.replicate 8 mark)
    wacc := Vector.replicate 8 mark
    wvco := Vector.replicate 16 mark
    wvcc := Vector.replicate 16 mark
    wvce := Vector.replicate 8 mark }

/-- An instance at creation (R43, R221): empty fault and refusal record, nothing driven, no command issued.
DESIGN CHOICE (log 4): the input ports hold zero before the first command. -/
def State.created (cfg : Config) : State where
  cfg := cfg
  ctx := Context.created cfg.resetPolicy
  fault := none
  refused := none
  din := {}
  dout := {}
  pending := []

/-- The machine right after reset, in the spec's default configuration. -/
def State.reset : State := State.created Config.default

end Sys2Proof.Machine
end

