-- ==== Sys2Proof/Machine/Operands.lean ====
section
/-! DEFINITION. Operand forms: lanes and their placement on the ports (spec/00_scope.md R10, spec/20_memory.md R52),
accumulator lanes (spec/10_state.md R25) and the shuffle (spec/42_shuffle.md R141-R143). -/
namespace Sys2Proof.Machine

/-- `mk(i ↦ f(i))` of R10, for any kind of lane. -/
def lanes {α : Type} (f : Lane → α) : Vector α 8 :=
  #v[f 0, f 1, f 2, f 3, f 4, f 5, f 6, f 7]

/-- `bits(v)` of R10: lane 0 most significant (R52). -/
def vecBits (v : Vec) : BitVec 128 :=
  v[0] ++ v[1] ++ v[2] ++ v[3] ++ v[4] ++ v[5] ++ v[6] ++ v[7]

/-- `vec(x)` of R103: lane `i` is `x[127-16i : 112-16i]` (R52). -/
def bitsVec (x : BitVec 128) : Vec :=
  lanes fun i => x.extractLsb' (112 - 16 * i.val) 16

/-- The 384-bit accumulator port, H : M : L (R75, R102). -/
def accPort (h m l : Vec) : BitVec 384 :=
  vecBits h ++ vecBits m ++ vecBits l

/-- `ACC⟨i⟩` from its slices (R25). -/
def accWord (h m l : Word16) : Word48 := h ++ m ++ l

/-- Bits 47:32, 31:16 and 15:0 of an accumulator lane value (R25). -/
def sliceH (a : Word48) : Word16 := a.extractLsb' 32 16
def sliceM (a : Word48) : Word16 := a.extractLsb' 16 16
def sliceL (a : Word48) : Word16 := a.extractLsb' 0 16

/-- `ELEMENT_TABLE[e]`: codes 0 and 1 are the identity (R141), the others a row of the parameter (R142). -/
def elementRow (rows : ElementRows) (e : ElementCode) : Vector Lane 8 :=
  if h : 2 ≤ e.val then rows[e.val - 2] else lanes id

/-- `shuffle` and `shuffle_m` of R143: lane `i` of the result is source lane `ELEMENT_TABLE[e][i]`. -/
def shuffle {α : Type} (rows : ElementRows) (v : Vector α 8) (e : ElementCode) : Vector α 8 :=
  lanes fun i => v[(elementRow rows e)[i]]

end Sys2Proof.Machine
end

