-- ==== Sys2Proof/Machine/Ops.lean ====
section
/-! DEFINITION. The named operations over the context: written marks and guarded reads (spec/10_state.md R39),
writes (R23, R25, R26), and the one way a command ends (spec/60_exceptions.md R201, R204). -/
namespace Sys2Proof.Machine

/-- `W(x)` of R11. -/
def Context.written (c : Context) : Element → Bool
  | .vr r i => c.wvr[r][i]
  | .acc i => c.wacc[i]
  | .vco k => c.wvco[k]
  | .vcc k => c.wvcc[k]
  | .vce k => c.wvce[k]

/-- The elements a read needs, in the order it reads them: the first unwritten one is reported (R39, R205). -/
def Context.require (c : Context) (els : List Element) : Except CommandFault Unit :=
  match els.find? (fun el => !c.written el) with
  | some el => .error (.readBeforeWrite el)
  | none => .ok ()

/-- The lanes of a register, lowest first (R100). -/
def vrElements (r : VReg) : List Element := (List.finRange 8).map (.vr r)

/-- The accumulator lanes, lowest first (R102). -/
def accElements : List Element := (List.finRange 8).map .acc

/-- `ReadV` of 41_elementwise.md. -/
def Context.readVr (c : Context) (r : VReg) : Except CommandFault Vec := do
  c.require (vrElements r)
  return c.vr[r]

/-- `VR[r] <- v`, all lanes marked (R11, R23, R39). -/
def Context.writeVr (c : Context) (r : VReg) (v : Vec) : Context :=
  { c with vr := c.vr.set r v, wvr := c.wvr.set r (Vector.replicate 8 true) }

/-- `ACC⟨i⟩` (R25). -/
def Context.accLane (c : Context) (i : Lane) : Word48 :=
  accWord c.accH[i] c.accM[i] c.accL[i]

/-- Write the lanes that have a value, each lane's three slices together, and mark them (R25, R26, R180). -/
def Context.writeAccLanes (c : Context) (a : Vector (Option Word48) 8) : Context :=
  { c with
    accH := lanes fun i => (a[i].map sliceH).getD c.accH[i]
    accM := lanes fun i => (a[i].map sliceM).getD c.accM[i]
    accL := lanes fun i => (a[i].map sliceL).getD c.accL[i]
    wacc := lanes fun i => a[i].isSome || c.wacc[i] }

/-- `VRm[r]` of R180: `none` where the written mark is clear. -/
def Context.maybeVr (c : Context) (r : VReg) : MaybeVec :=
  lanes fun i => if c.wvr[r][i] then some c.vr[r][i] else none

/-- `ACCm` of R180. -/
def Context.maybeAcc (c : Context) : Vector (Option Word48) 8 :=
  lanes fun i => if c.wacc[i] then some (c.accLane i) else none

/-- `VCOm` of R180. -/
def Context.maybeVco (c : Context) : Vector (Option Bool) 16 :=
  Vector.ofFn fun k => if c.wvco[k] then some (c.vco.getLsbD k) else none

/-- `VCCm` of R180. -/
def Context.maybeVcc (c : Context) : Vector (Option Bool) 16 :=
  Vector.ofFn fun k => if c.wvcc[k] then some (c.vcc.getLsbD k) else none

/-- `VCEm` of R180. -/
def Context.maybeVce (c : Context) : Vector (Option Bool) 8 :=
  Vector.ofFn fun k => if c.wvce[k] then some (c.vce.getLsbD k) else none

/-- What a command that does not fault leaves: the context and the ports it drives. -/
structure Effect where
  ctx : Context
  out : DataOut := {}

/-- The text a fault sends to the diagnostic sink: `UnimplementedOpcode` alone sends one (R202, R203). -/
def CommandFault.diag : CommandFault → Option String
  | .unimplementedOpcode slot iw => some (Config.diagText slot iw)
  | .readBeforeWrite _ => none
  | .nonCanonicalFlagLane _ _ => none
  | .handlerFault _ _ => none

/-- A sticky record: once set it stays set (R204). Whether a later report replaces the first is a free value (log 2). -/
def stickyReport {α : Type} (old : Option α) (new : α) : Option α :=
  match old with
  | none => some new
  | some first => some (if Config.laterReportReplaces then new else first)

/-- `raise F` of R12: the record and the `FAULT` port, nothing else (R204). -/
def State.raise (s : State) (f : CommandFault) : State :=
  { s with fault := stickyReport s.fault f, dout := { diag := f.diag, report := some (.fault f) } }

/-- `refuse Q` of R12: the record and the `FAULT` port, nothing else (R204). -/
def State.refuse (s : State) (q : CommandRefusal) : State :=
  { s with refused := stickyReport s.refused q, dout := { report := some (.refusal q) } }

/-- The state a command leaves: its effect, with every port it does not drive undriven (R75), or its fault. -/
def State.settle (s : State) : Except CommandFault Effect → State
  | .ok eff => { s with ctx := eff.ctx, dout := eff.out }
  | .error f => s.raise f

/-- How every command ends. DEDUCED (log 1): a fault of the spec is a next state, for R204 says what it
leaves and that later commands execute. -/
def State.conclude (s : State) (r : Except CommandFault Effect) : Host.Outcome State Fault Refusal :=
  .next (s.settle r)

end Sys2Proof.Machine
end

