-- ==== Sys2Proof/Machine/Flags.lean ====
section
/-! DEFINITION. The condition flags: packed registers, their fields, the expanded view and the mask a field is
written from (spec/10_state.md R28-R33, spec/43_flags.md R150-R169). -/
namespace Sys2Proof.Machine

/-- `ONES` and `ZERO` of R9. -/
def ones : Word16 := 0xFFFF
def zero : Word16 := 0x0000

/-- `bool16` of R9. -/
def bool16 (b : Bool) : Word16 := if b then ones else zero

/-- The five 8-bit flag fields (R29-R31). -/
inductive FlagField where
  | co
  | ne
  | lt
  | ge
  | ce
deriving DecidableEq, Repr

/-- The packed bits of a field (R29-R31). -/
def Context.flagByte (c : Context) : FlagField → BitVec 8
  | .co => c.vco.extractLsb' 0 8
  | .ne => c.vco.extractLsb' 8 8
  | .lt => c.vcc.extractLsb' 0 8
  | .ge => c.vcc.extractLsb' 8 8
  | .ce => c.vce

/-- The bit of the packed register that holds lane `i` of a field (R29-R31). -/
def FlagField.element : FlagField → Lane → Element
  | .co, i => .vco (i.castLE (by decide))
  | .ne, i => .vco (i.natAdd 8)
  | .lt, i => .vcc (i.castLE (by decide))
  | .ge, i => .vcc (i.natAdd 8)
  | .ce, i => .vce i

/-- The expanded form `X(F)` of eight flag bits (R32). -/
def expand (b : BitVec 8) : Vec := lanes fun i => bool16 (b.getLsbD i)

/-- `b` with `b[i] = (m⟨i⟩ = ONES)` (R169). -/
def packMask (m : Vec) : BitVec 8 := BitVec.ofFnLE fun i => m[i] == ones

/-- `Pack(r)` of R169: every `ReadBeforeWrite` before any `NonCanonicalFlagLane`, each lowest lane first. -/
def Context.readMask (c : Context) (r : VReg) : Except CommandFault (BitVec 8) := do
  let m ← c.readVr r
  match (List.finRange 8).find? (fun i => m[i] != ones && m[i] != zero) with
  | some i => .error (.nonCanonicalFlagLane r i)
  | none => .ok (packMask m)

/-- The marks of a 16-bit flag register after its low or its high byte is written. -/
def markLow (w : Vector Bool 16) : Vector Bool 16 := Vector.ofFn fun k => decide (k.val < 8) || w[k]
def markHigh (w : Vector Bool 16) : Vector Bool 16 := Vector.ofFn fun k => decide (8 ≤ k.val) || w[k]

/-- Write one field and its marks; the other field of the register keeps its bits and marks (R162-R166). -/
def Context.writeFlagByte (c : Context) (f : FlagField) (b : BitVec 8) : Context :=
  match f with
  | .co => { c with vco := c.vco.extractLsb' 8 8 ++ b, wvco := markLow c.wvco }
  | .ne => { c with vco := b ++ c.vco.extractLsb' 0 8, wvco := markHigh c.wvco }
  | .lt => { c with vcc := c.vcc.extractLsb' 8 8 ++ b, wvcc := markLow c.wvcc }
  | .ge => { c with vcc := b ++ c.vcc.extractLsb' 0 8, wvcc := markHigh c.wvcc }
  | .ce => { c with vce := b, wvce := Vector.replicate 8 true }

/-- Packed writes of a whole register, all marks set (R153-R155). -/
def Context.writeVco (c : Context) (v : Word16) : Context :=
  { c with vco := v, wvco := Vector.replicate 16 true }
def Context.writeVcc (c : Context) (v : Word16) : Context :=
  { c with vcc := v, wvcc := Vector.replicate 16 true }
def Context.writeVce (c : Context) (v : BitVec 8) : Context :=
  { c with vce := v, wvce := Vector.replicate 8 true }

/-- The bits of the packed registers, lowest first (R150-R152). -/
def vcoElements : List Element := (List.finRange 16).map .vco
def vccElements : List Element := (List.finRange 16).map .vcc
def vceElements : List Element := (List.finRange 8).map .vce

/-- Packed reads (R150-R152); the high byte of VCE reads as zero. -/
def Context.readVco (c : Context) : Except CommandFault Word16 := do
  c.require vcoElements
  return c.vco
def Context.readVcc (c : Context) : Except CommandFault Word16 := do
  c.require vccElements
  return c.vcc
def Context.readVce (c : Context) : Except CommandFault Word16 := do
  c.require vceElements
  return c.vce.zeroExtend 16

/-- The packed value on `DIN_P` that SETVCE keeps: bits 7:0 (R155). -/
def vceOfPort (p : Word16) : BitVec 8 := p.extractLsb' 0 8

/-- XRD: the expanded form of a field into a register (R157-R161). -/
def Context.readExpanded (c : Context) (f : FlagField) (rd : VReg) : Except CommandFault Effect := do
  c.require ((List.finRange 8).map f.element)
  return { ctx := c.writeVr rd (expand (c.flagByte f)) }

/-- XWR: a field from a mask register (R162-R166, R169). -/
def Context.writeExpanded (c : Context) (f : FlagField) (rs : VReg) : Except CommandFault Effect := do
  let b ← c.readMask rs
  return { ctx := c.writeFlagByte f b }

end Sys2Proof.Machine
end

