-- ==== Sys2Proof/Machine/Elementwise.lean ====
section
/-! DEFINITION. Elementwise operations (spec/41_elementwise.md R120-R134). -/
namespace Sys2Proof.Machine

/-- A two-operand command: both operands are snapshots, `rd` read before `rs`, lane `i` of the result from
lane `i` of the operands (R131, R134). -/
def Context.lanewise (c : Context) (f : Word16 → Word16 → Word16) (rd rs : VReg) : Except CommandFault Effect := do
  let a ← c.readVr rd
  let b ← c.readVr rs
  return { ctx := c.writeVr rd (lanes fun i => f a[i] b[i]) }

/-- The lane masks of R127-R129; lanes are compared as `sint16` (R22). -/
def maskLt (a b : Word16) : Word16 := bool16 (decide (a.toInt < b.toInt))
def maskEq (a b : Word16) : Word16 := bool16 (decide (a.toInt = b.toInt))
def maskGt (a b : Word16) : Word16 := bool16 (decide (b.toInt < a.toInt))

/-- VCOPY (R121): `VR[rd]` is not read. -/
def execVcopy (rd rs : VReg) (s : State) : Host.Outcome State Fault Refusal :=
  s.conclude do
    let b ← s.ctx.readVr rs
    return { ctx := s.ctx.writeVr rd b }

/-- VWIPE (R122): the old value is not read. -/
def execVwipe (rd : VReg) (s : State) : Host.Outcome State Fault Refusal :=
  s.conclude (.ok { ctx := s.ctx.writeVr rd (lanes fun _ => zero) })

/-- VFILL (R123): the old value is not read. -/
def execVfill (rd : VReg) (s : State) : Host.Outcome State Fault Refusal :=
  s.conclude (.ok { ctx := s.ctx.writeVr rd (lanes fun _ => ones) })

/-- VAND (R124). -/
def execVand (rd rs : VReg) (s : State) : Host.Outcome State Fault Refusal :=
  s.conclude (s.ctx.lanewise (fun a b => a &&& b) rd rs)

/-- VOR (R125). -/
def execVor (rd rs : VReg) (s : State) : Host.Outcome State Fault Refusal :=
  s.conclude (s.ctx.lanewise (fun a b => a ||| b) rd rs)

/-- VXOR (R126). -/
def execVxor (rd rs : VReg) (s : State) : Host.Outcome State Fault Refusal :=
  s.conclude (s.ctx.lanewise (fun a b => a ^^^ b) rd rs)

/-- VCMPLT (R127). -/
def execVcmplt (rd rs : VReg) (s : State) : Host.Outcome State Fault Refusal :=
  s.conclude (s.ctx.lanewise maskLt rd rs)

/-- VCMPEQ (R128). -/
def execVcmpeq (rd rs : VReg) (s : State) : Host.Outcome State Fault Refusal :=
  s.conclude (s.ctx.lanewise maskEq rd rs)

/-- VCMPGT (R129). -/
def execVcmpgt (rd rs : VReg) (s : State) : Host.Outcome State Fault Refusal :=
  s.conclude (s.ctx.lanewise maskGt rd rs)

end Sys2Proof.Machine
end

