-- ==== Sys2Proof/Machine/FlagAccess.lean ====
section
/-! DEFINITION. The condition-flag commands (spec/43_flags.md R150-R166). -/
namespace Sys2Proof.Machine

/-- GETVCO (R150). -/
def execGetvco (s : State) : Host.Outcome State Fault Refusal :=
  s.conclude do
    let p ← s.ctx.readVco
    return { ctx := s.ctx, out := { p := some p } }

/-- GETVCC (R151). -/
def execGetvcc (s : State) : Host.Outcome State Fault Refusal :=
  s.conclude do
    let p ← s.ctx.readVcc
    return { ctx := s.ctx, out := { p := some p } }

/-- GETVCE (R152). -/
def execGetvce (s : State) : Host.Outcome State Fault Refusal :=
  s.conclude do
    let p ← s.ctx.readVce
    return { ctx := s.ctx, out := { p := some p } }

/-- SETVCO (R153). -/
def execSetvco (s : State) : Host.Outcome State Fault Refusal :=
  s.conclude (.ok { ctx := s.ctx.writeVco s.din.p })

/-- SETVCC (R154). -/
def execSetvcc (s : State) : Host.Outcome State Fault Refusal :=
  s.conclude (.ok { ctx := s.ctx.writeVcc s.din.p })

/-- SETVCE (R155): `DIN_P[15:8]` is ignored. -/
def execSetvce (s : State) : Host.Outcome State Fault Refusal :=
  s.conclude (.ok { ctx := s.ctx.writeVce (vceOfPort s.din.p) })

/-- XRD.CO (R157). -/
def execXrdCo (rd : VReg) (s : State) : Host.Outcome State Fault Refusal :=
  s.conclude (s.ctx.readExpanded .co rd)

/-- XRD.NE (R158). -/
def execXrdNe (rd : VReg) (s : State) : Host.Outcome State Fault Refusal :=
  s.conclude (s.ctx.readExpanded .ne rd)

/-- XRD.LT (R159). -/
def execXrdLt (rd : VReg) (s : State) : Host.Outcome State Fault Refusal :=
  s.conclude (s.ctx.readExpanded .lt rd)

/-- XRD.GE (R160). -/
def execXrdGe (rd : VReg) (s : State) : Host.Outcome State Fault Refusal :=
  s.conclude (s.ctx.readExpanded .ge rd)

/-- XRD.CE (R161). -/
def execXrdCe (rd : VReg) (s : State) : Host.Outcome State Fault Refusal :=
  s.conclude (s.ctx.readExpanded .ce rd)

/-- XWR.CO (R162). -/
def execXwrCo (rs : VReg) (s : State) : Host.Outcome State Fault Refusal :=
  s.conclude (s.ctx.writeExpanded .co rs)

/-- XWR.NE (R163). -/
def execXwrNe (rs : VReg) (s : State) : Host.Outcome State Fault Refusal :=
  s.conclude (s.ctx.writeExpanded .ne rs)

/-- XWR.LT (R164). -/
def execXwrLt (rs : VReg) (s : State) : Host.Outcome State Fault Refusal :=
  s.conclude (s.ctx.writeExpanded .lt rs)

/-- XWR.GE (R165). -/
def execXwrGe (rs : VReg) (s : State) : Host.Outcome State Fault Refusal :=
  s.conclude (s.ctx.writeExpanded .ge rs)

/-- XWR.CE (R166). -/
def execXwrCe (rs : VReg) (s : State) : Host.Outcome State Fault Refusal :=
  s.conclude (s.ctx.writeExpanded .ce rs)

end Sys2Proof.Machine
end

