-- ==== Sys2Proof/Machine/Reset.lean ====
section
/-! DEFINITION. RESET (spec/70_reset_and_hazards.md R220-R222). -/
namespace Sys2Proof.Machine

/-- RESET (R220): the context as at creation (R221); configuration (R40) and records (R204) unchanged. -/
def execReset (s : State) : Host.Outcome State Fault Refusal :=
  s.conclude (.ok { ctx := Context.created s.cfg.resetPolicy })

end Sys2Proof.Machine
end

