-- ==== Sys2Proof/Machine/Shuffle.lean ====
section
/-! DEFINITION. VSHUF (spec/42_shuffle.md R140). -/
namespace Sys2Proof.Machine

/-- The source lanes an element code selects, in the order of the result lanes (R140). -/
def shuffleElements (rows : ElementRows) (rs : VReg) (e : ElementCode) : List Element :=
  (elementRow rows e).toList.map (.vr rs)

/-- VSHUF (R140): only the lanes the table selects are read, all before the write. -/
def execVshuf (rd rs : VReg) (e : ElementCode) (s : State) : Host.Outcome State Fault Refusal :=
  s.conclude do
    s.ctx.require (shuffleElements s.cfg.elementRows rs e)
    return { ctx := s.ctx.writeVr rd (shuffle s.cfg.elementRows s.ctx.vr[rs] e) }

end Sys2Proof.Machine
end

