-- ==== Sys2Proof/Machine/Handlers.lean ====
section
/-! DEFINITION. The dispatch table's contract (spec/44_dispatch.md R180-R187): indexing, operand preparation, the call
and the write-back. -/
namespace Sys2Proof.Machine

/-- The handler function that plain data stands for. -/
def HandlerData.call (h : HandlerData) : Handler := fun i =>
  match h.cases.find? (fun p => decide (p.1 = i)) with
  | some p => p.2
  | none => h.otherwise

/-- `HANDLERS[slot]`, `none` for `Unimplemented` (R181). -/
def handlerAt (cfg : Config) (slot : SlotIndex) : Option Handler :=
  match cfg.handlers[slot] with
  | .external => Config.externalHandler slot
  | .unimplemented => none
  | .given h => some (HandlerData.call h)

/-- What the handler is given: a snapshot, `none` where a mark is clear; `VR[vt]` shuffled once, `VR[vs]` and
`VR[vd]` as they are (R180, R184, R186, R187). -/
def handlerIn (cfg : Config) (iw : Word32) (c : Context) : HandlerIn where
  iw := iw
  dest := c.maybeVr (operandsOfWord iw).vd
  shuffled := shuffle cfg.elementRows (c.maybeVr (operandsOfWord iw).vt) (operandsOfWord iw).e
  raw := c.maybeVr (operandsOfWord iw).vs
  acc := c.maybeAcc
  vco := c.maybeVco
  vcc := c.maybeVcc
  vce := c.maybeVce

/-- Overwrite a packed flag register where the handler returns a value (R34, R182). -/
def Context.overwriteVco (c : Context) : Option Word16 → Context
  | some v => c.writeVco v
  | none => c
def Context.overwriteVcc (c : Context) : Option Word16 → Context
  | some v => c.writeVcc v
  | none => c
def Context.overwriteVce (c : Context) : Option (BitVec 8) → Context
  | some v => c.writeVce v
  | none => c

/-- The write-back: the result always to all of `VR[vd]` (R185), accumulator lanes whole (R26), flag registers
whole (R182). -/
def Context.writeBack (c : Context) (vd : VReg) (out : HandlerOut) : Context :=
  ((((c.writeVr vd out.result).writeAccLanes out.acc).overwriteVco out.vco).overwriteVcc out.vcc).overwriteVce out.vce

/-- The pseudocode of R180 for the instruction word `iw`. -/
def dispatchEffect (cfg : Config) (iw : Word32) (c : Context) : Except CommandFault Effect :=
  match handlerAt cfg (slotOfWord iw) with
  | none => .error (.unimplementedOpcode (slotOfWord iw) iw)
  | some h =>
    match h (handlerIn cfg iw c) with
    | .fault reason => .error (.handlerFault (slotOfWord iw) reason)
    | .ok out => .ok { ctx := c.writeBack (operandsOfWord iw).vd out }

/-- Run the handler that an instruction word selects. -/
def State.dispatch (s : State) (iw : Word32) : Host.Outcome State Fault Refusal :=
  s.conclude (dispatchEffect s.cfg iw s.ctx)

/-- DISPATCH (R180): the instruction word is the one on `DIN_I` (R76). -/
def execDispatch (s : State) : Host.Outcome State Fault Refusal := s.dispatch s.din.i

end Sys2Proof.Machine
end

