-- ==== Sys2Proof/Machine/Slots.lean ====
section
/-! DEFINITION. The 64 slots (spec/30_encoding.md R81). The block gives no slot an arithmetic of its own (spec/44_dispatch.md
R189), so each meaning is the dispatch of the slot's instruction word; each has a definition of its own. -/
namespace Sys2Proof.Machine

/-- IW.VMULF. -/
def execIwVmulf (f : IwOperands) (s : State) : Host.Outcome State Fault Refusal :=
  s.dispatch (iwWord 0 f)

/-- IW.VMULU. -/
def execIwVmulu (f : IwOperands) (s : State) : Host.Outcome State Fault Refusal :=
  s.dispatch (iwWord 1 f)

/-- IW.VRNDP. -/
def execIwVrndp (f : IwOperands) (s : State) : Host.Outcome State Fault Refusal :=
  s.dispatch (iwWord 2 f)

/-- IW.VMULQ. -/
def execIwVmulq (f : IwOperands) (s : State) : Host.Outcome State Fault Refusal :=
  s.dispatch (iwWord 3 f)

/-- IW.VMUDL. -/
def execIwVmudl (f : IwOperands) (s : State) : Host.Outcome State Fault Refusal :=
  s.dispatch (iwWord 4 f)

/-- IW.VMUDM. -/
def execIwVmudm (f : IwOperands) (s : State) : Host.Outcome State Fault Refusal :=
  s.dispatch (iwWord 5 f)

/-- IW.VMUDN. -/
def execIwVmudn (f : IwOperands) (s : State) : Host.Outcome State Fault Refusal :=
  s.dispatch (iwWord 6 f)

/-- IW.VMUDH. -/
def execIwVmudh (f : IwOperands) (s : State) : Host.Outcome State Fault Refusal :=
  s.dispatch (iwWord 7 f)

/-- IW.VMACF. -/
def execIwVmacf (f : IwOperands) (s : State) : Host.Outcome State Fault Refusal :=
  s.dispatch (iwWord 8 f)

/-- IW.VMACU. -/
def execIwVmacu (f : IwOperands) (s : State) : Host.Outcome State Fault Refusal :=
  s.dispatch (iwWord 9 f)

/-- IW.VRNDN. -/
def execIwVrndn (f : IwOperands) (s : State) : Host.Outcome State Fault Refusal :=
  s.dispatch (iwWord 10 f)

/-- IW.VMACQ. -/
def execIwVmacq (f : IwOperands) (s : State) : Host.Outcome State Fault Refusal :=
  s.dispatch (iwWord 11 f)

/-- IW.VMADL. -/
def execIwVmadl (f : IwOperands) (s : State) : Host.Outcome State Fault Refusal :=
  s.dispatch (iwWord 12 f)

/-- IW.VMADM. -/
def execIwVmadm (f : IwOperands) (s : State) : Host.Outcome State Fault Refusal :=
  s.dispatch (iwWord 13 f)

/-- IW.VMADN. -/
def execIwVmadn (f : IwOperands) (s : State) : Host.Outcome State Fault Refusal :=
  s.dispatch (iwWord 14 f)

/-- IW.VMADH. -/
def execIwVmadh (f : IwOperands) (s : State) : Host.Outcome State Fault Refusal :=
  s.dispatch (iwWord 15 f)

/-- IW.VADD. -/
def execIwVadd (f : IwOperands) (s : State) : Host.Outcome State Fault Refusal :=
  s.dispatch (iwWord 16 f)

/-- IW.VSUB. -/
def execIwVsub (f : IwOperands) (s : State) : Host.Outcome State Fault Refusal :=
  s.dispatch (iwWord 17 f)

/-- IW.VSUT. -/
def execIwVsut (f : IwOperands) (s : State) : Host.Outcome State Fault Refusal :=
  s.dispatch (iwWord 18 f)

/-- IW.VABS. -/
def execIwVabs (f : IwOperands) (s : State) : Host.Outcome State Fault Refusal :=
  s.dispatch (iwWord 19 f)

/-- IW.VADDC. -/
def execIwVaddc (f : IwOperands) (s : State) : Host.Outcome State Fault Refusal :=
  s.dispatch (iwWord 20 f)

/-- IW.VSUBC. -/
def execIwVsubc (f : IwOperands) (s : State) : Host.Outcome State Fault Refusal :=
  s.dispatch (iwWord 21 f)

/-- IW.VADDB. -/
def execIwVaddb (f : IwOperands) (s : State) : Host.Outcome State Fault Refusal :=
  s.dispatch (iwWord 22 f)

/-- IW.VSUBB. -/
def execIwVsubb (f : IwOperands) (s : State) : Host.Outcome State Fault Refusal :=
  s.dispatch (iwWord 23 f)

/-- IW.VACCB. -/
def execIwVaccb (f : IwOperands) (s : State) : Host.Outcome State Fault Refusal :=
  s.dispatch (iwWord 24 f)

/-- IW.VSUCB. -/
def execIwVsucb (f : IwOperands) (s : State) : Host.Outcome State Fault Refusal :=
  s.dispatch (iwWord 25 f)

/-- IW.VSAD. -/
def execIwVsad (f : IwOperands) (s : State) : Host.Outcome State Fault Refusal :=
  s.dispatch (iwWord 26 f)

/-- IW.VSAC. -/
def execIwVsac (f : IwOperands) (s : State) : Host.Outcome State Fault Refusal :=
  s.dispatch (iwWord 27 f)

/-- IW.VSUM. -/
def execIwVsum (f : IwOperands) (s : State) : Host.Outcome State Fault Refusal :=
  s.dispatch (iwWord 28 f)

/-- IW.VSAR. -/
def execIwVsar (f : IwOperands) (s : State) : Host.Outcome State Fault Refusal :=
  s.dispatch (iwWord 29 f)

/-- IW.V30. -/
def execIwV30 (f : IwOperands) (s : State) : Host.Outcome State Fault Refusal :=
  s.dispatch (iwWord 30 f)

/-- IW.V31. -/
def execIwV31 (f : IwOperands) (s : State) : Host.Outcome State Fault Refusal :=
  s.dispatch (iwWord 31 f)

/-- IW.VLT. -/
def execIwVlt (f : IwOperands) (s : State) : Host.Outcome State Fault Refusal :=
  s.dispatch (iwWord 32 f)

/-- IW.VEQ. -/
def execIwVeq (f : IwOperands) (s : State) : Host.Outcome State Fault Refusal :=
  s.dispatch (iwWord 33 f)

/-- IW.VNE. -/
def execIwVne (f : IwOperands) (s : State) : Host.Outcome State Fault Refusal :=
  s.dispatch (iwWord 34 f)

/-- IW.VGE. -/
def execIwVge (f : IwOperands) (s : State) : Host.Outcome State Fault Refusal :=
  s.dispatch (iwWord 35 f)

/-- IW.VCL. -/
def execIwVcl (f : IwOperands) (s : State) : Host.Outcome State Fault Refusal :=
  s.dispatch (iwWord 36 f)

/-- IW.VCH. -/
def execIwVch (f : IwOperands) (s : State) : Host.Outcome State Fault Refusal :=
  s.dispatch (iwWord 37 f)

/-- IW.VCR. -/
def execIwVcr (f : IwOperands) (s : State) : Host.Outcome State Fault Refusal :=
  s.dispatch (iwWord 38 f)

/-- IW.VMRG. -/
def execIwVmrg (f : IwOperands) (s : State) : Host.Outcome State Fault Refusal :=
  s.dispatch (iwWord 39 f)

/-- IW.VAND. -/
def execIwVand (f : IwOperands) (s : State) : Host.Outcome State Fault Refusal :=
  s.dispatch (iwWord 40 f)

/-- IW.VNAND. -/
def execIwVnand (f : IwOperands) (s : State) : Host.Outcome State Fault Refusal :=
  s.dispatch (iwWord 41 f)

/-- IW.VOR. -/
def execIwVor (f : IwOperands) (s : State) : Host.Outcome State Fault Refusal :=
  s.dispatch (iwWord 42 f)

/-- IW.VNOR. -/
def execIwVnor (f : IwOperands) (s : State) : Host.Outcome State Fault Refusal :=
  s.dispatch (iwWord 43 f)

/-- IW.VXOR. -/
def execIwVxor (f : IwOperands) (s : State) : Host.Outcome State Fault Refusal :=
  s.dispatch (iwWord 44 f)

/-- IW.VNXOR. -/
def execIwVnxor (f : IwOperands) (s : State) : Host.Outcome State Fault Refusal :=
  s.dispatch (iwWord 45 f)

/-- IW.V46. -/
def execIwV46 (f : IwOperands) (s : State) : Host.Outcome State Fault Refusal :=
  s.dispatch (iwWord 46 f)

/-- IW.V47. -/
def execIwV47 (f : IwOperands) (s : State) : Host.Outcome State Fault Refusal :=
  s.dispatch (iwWord 47 f)

/-- IW.VRCP. -/
def execIwVrcp (f : IwOperands) (s : State) : Host.Outcome State Fault Refusal :=
  s.dispatch (iwWord 48 f)

/-- IW.VRCPL. -/
def execIwVrcpl (f : IwOperands) (s : State) : Host.Outcome State Fault Refusal :=
  s.dispatch (iwWord 49 f)

/-- IW.VRCPH. -/
def execIwVrcph (f : IwOperands) (s : State) : Host.Outcome State Fault Refusal :=
  s.dispatch (iwWord 50 f)

/-- IW.VMOV. -/
def execIwVmov (f : IwOperands) (s : State) : Host.Outcome State Fault Refusal :=
  s.dispatch (iwWord 51 f)

/-- IW.VRSQ. -/
def execIwVrsq (f : IwOperands) (s : State) : Host.Outcome State Fault Refusal :=
  s.dispatch (iwWord 52 f)

/-- IW.VRSQL. -/
def execIwVrsql (f : IwOperands) (s : State) : Host.Outcome State Fault Refusal :=
  s.dispatch (iwWord 53 f)

/-- IW.VRSQH. -/
def execIwVrsqh (f : IwOperands) (s : State) : Host.Outcome State Fault Refusal :=
  s.dispatch (iwWord 54 f)

/-- IW.VNOP. -/
def execIwVnop (f : IwOperands) (s : State) : Host.Outcome State Fault Refusal :=
  s.dispatch (iwWord 55 f)

/-- IW.VEXTT. -/
def execIwVextt (f : IwOperands) (s : State) : Host.Outcome State Fault Refusal :=
  s.dispatch (iwWord 56 f)

/-- IW.VEXTQ. -/
def execIwVextq (f : IwOperands) (s : State) : Host.Outcome State Fault Refusal :=
  s.dispatch (iwWord 57 f)

/-- IW.VEXTN. -/
def execIwVextn (f : IwOperands) (s : State) : Host.Outcome State Fault Refusal :=
  s.dispatch (iwWord 58 f)

/-- IW.V59. -/
def execIwV59 (f : IwOperands) (s : State) : Host.Outcome State Fault Refusal :=
  s.dispatch (iwWord 59 f)

/-- IW.VINST. -/
def execIwVinst (f : IwOperands) (s : State) : Host.Outcome State Fault Refusal :=
  s.dispatch (iwWord 60 f)

/-- IW.VINSQ. -/
def execIwVinsq (f : IwOperands) (s : State) : Host.Outcome State Fault Refusal :=
  s.dispatch (iwWord 61 f)

/-- IW.VINSN. -/
def execIwVinsn (f : IwOperands) (s : State) : Host.Outcome State Fault Refusal :=
  s.dispatch (iwWord 62 f)

/-- IW.VNULL. -/
def execIwVnull (f : IwOperands) (s : State) : Host.Outcome State Fault Refusal :=
  s.dispatch (iwWord 63 f)

end Sys2Proof.Machine
end

