-- ==== Sys2Proof/Machine/StoreAccess.lean ====
section
/-! DEFINITION. Register-file and accumulator access (spec/40_store_access.md R100-R107). -/
namespace Sys2Proof.Machine

/-- VREAD (R100). -/
def execVread (rs : VReg) (s : State) : Host.Outcome State Fault Refusal :=
  s.conclude do
    let v ← s.ctx.readVr rs
    return { ctx := s.ctx, out := { v := some (vecBits v) } }

/-- VWRITE (R101). -/
def execVwrite (rd : VReg) (s : State) : Host.Outcome State Fault Refusal :=
  s.conclude (.ok { ctx := s.ctx.writeVr rd (bitsVec s.din.v) })

/-- ACCRD (R102): the stored value, no clamping. -/
def execAccrd (s : State) : Host.Outcome State Fault Refusal :=
  s.conclude do
    s.ctx.require accElements
    return { ctx := s.ctx, out := { acc := some (accPort s.ctx.accH s.ctx.accM s.ctx.accL) } }

/-- The accumulator lanes presented on `DIN_ACC` (R75, R103). -/
def accOfPort (x : BitVec 384) : Vector (Option Word48) 8 :=
  let h := bitsVec (x.extractLsb' 256 128)
  let m := bitsVec (x.extractLsb' 128 128)
  let l := bitsVec (x.extractLsb' 0 128)
  lanes fun i => some (accWord h[i] m[i] l[i])

/-- ACCWR (R103). -/
def execAccwr (s : State) : Host.Outcome State Fault Refusal :=
  s.conclude (.ok { ctx := s.ctx.writeAccLanes (accOfPort s.din.acc) })

/-- ACCRDL (R104). -/
def execAccrdl (lane : Lane) (s : State) : Host.Outcome State Fault Refusal :=
  s.conclude do
    s.ctx.require [.acc lane]
    return { ctx := s.ctx, out := { a := some (s.ctx.accLane lane) } }

/-- ACCWRL (R105): the three slices of one lane together. -/
def execAccwrl (lane : Lane) (s : State) : Host.Outcome State Fault Refusal :=
  s.conclude (.ok { ctx := s.ctx.writeAccLanes (lanes fun i => if i = lane then some s.din.a else none) })

end Sys2Proof.Machine
end

