-- ==== Sys2Proof/Machine/Dispatch.lean ====
section
/-! DEFINITION. One arm per instruction. -/
namespace Sys2Proof.Machine

def exec (i : Instr) (s : State) : Host.Outcome State Fault Refusal :=
  match i with
  | .vcopy rd rs => Sys2Proof.Machine.execVcopy rd rs s
  | .vwipe rd => Sys2Proof.Machine.execVwipe rd s
  | .vfill rd => Sys2Proof.Machine.execVfill rd s
  | .vand rd rs => Sys2Proof.Machine.execVand rd rs s
  | .vor rd rs => Sys2Proof.Machine.execVor rd rs s
  | .vxor rd rs => Sys2Proof.Machine.execVxor rd rs s
  | .vcmplt rd rs => Sys2Proof.Machine.execVcmplt rd rs s
  | .vcmpeq rd rs => Sys2Proof.Machine.execVcmpeq rd rs s
  | .vcmpgt rd rs => Sys2Proof.Machine.execVcmpgt rd rs s
  | .vshuf rd rs e => Sys2Proof.Machine.execVshuf rd rs e s
  | .vread rs => Sys2Proof.Machine.execVread rs s
  | .vwrite rd => Sys2Proof.Machine.execVwrite rd s
  | .getvco => Sys2Proof.Machine.execGetvco s
  | .getvcc => Sys2Proof.Machine.execGetvcc s
  | .getvce => Sys2Proof.Machine.execGetvce s
  | .setvco => Sys2Proof.Machine.execSetvco s
  | .setvcc => Sys2Proof.Machine.execSetvcc s
  | .setvce => Sys2Proof.Machine.execSetvce s
  | .xrdCo rd => Sys2Proof.Machine.execXrdCo rd s
  | .xrdNe rd => Sys2Proof.Machine.execXrdNe rd s
  | .xrdLt rd => Sys2Proof.Machine.execXrdLt rd s
  | .xrdGe rd => Sys2Proof.Machine.execXrdGe rd s
  | .xrdCe rd => Sys2Proof.Machine.execXrdCe rd s
  | .xwrCo rs => Sys2Proof.Machine.execXwrCo rs s
  | .xwrNe rs => Sys2Proof.Machine.execXwrNe rs s
  | .xwrLt rs => Sys2Proof.Machine.execXwrLt rs s
  | .xwrGe rs => Sys2Proof.Machine.execXwrGe rs s
  | .xwrCe rs => Sys2Proof.Machine.execXwrCe rs s
  | .accrd => Sys2Proof.Machine.execAccrd s
  | .accwr => Sys2Proof.Machine.execAccwr s
  | .accrdl lane => Sys2Proof.Machine.execAccrdl lane s
  | .accwrl lane => Sys2Proof.Machine.execAccwrl lane s
  | .dispatch => Sys2Proof.Machine.execDispatch s
  | .reset => Sys2Proof.Machine.execReset s
  | .iwVmulf f => Sys2Proof.Machine.execIwVmulf f s
  | .iwVmulu f => Sys2Proof.Machine.execIwVmulu f s
  | .iwVrndp f => Sys2Proof.Machine.execIwVrndp f s
  | .iwVmulq f => Sys2Proof.Machine.execIwVmulq f s
  | .iwVmudl f => Sys2Proof.Machine.execIwVmudl f s
  | .iwVmudm f => Sys2Proof.Machine.execIwVmudm f s
  | .iwVmudn f => Sys2Proof.Machine.execIwVmudn f s
  | .iwVmudh f => Sys2Proof.Machine.execIwVmudh f s
  | .iwVmacf f => Sys2Proof.Machine.execIwVmacf f s
  | .iwVmacu f => Sys2Proof.Machine.execIwVmacu f s
  | .iwVrndn f => Sys2Proof.Machine.execIwVrndn f s
  | .iwVmacq f => Sys2Proof.Machine.execIwVmacq f s
  | .iwVmadl f => Sys2Proof.Machine.execIwVmadl f s
  | .iwVmadm f => Sys2Proof.Machine.execIwVmadm f s
  | .iwVmadn f => Sys2Proof.Machine.execIwVmadn f s
  | .iwVmadh f => Sys2Proof.Machine.execIwVmadh f s
  | .iwVadd f => Sys2Proof.Machine.execIwVadd f s
  | .iwVsub f => Sys2Proof.Machine.execIwVsub f s
  | .iwVsut f => Sys2Proof.Machine.execIwVsut f s
  | .iwVabs f => Sys2Proof.Machine.execIwVabs f s
  | .iwVaddc f => Sys2Proof.Machine.execIwVaddc f s
  | .iwVsubc f => Sys2Proof.Machine.execIwVsubc f s
  | .iwVaddb f => Sys2Proof.Machine.execIwVaddb f s
  | .iwVsubb f => Sys2Proof.Machine.execIwVsubb f s
  | .iwVaccb f => Sys2Proof.Machine.execIwVaccb f s
  | .iwVsucb f => Sys2Proof.Machine.execIwVsucb f s
  | .iwVsad f => Sys2Proof.Machine.execIwVsad f s
  | .iwVsac f => Sys2Proof.Machine.execIwVsac f s
  | .iwVsum f => Sys2Proof.Machine.execIwVsum f s
  | .iwVsar f => Sys2Proof.Machine.execIwVsar f s
  | .iwV30 f => Sys2Proof.Machine.execIwV30 f s
  | .iwV31 f => Sys2Proof.Machine.execIwV31 f s
  | .iwVlt f => Sys2Proof.Machine.execIwVlt f s
  | .iwVeq f => Sys2Proof.Machine.execIwVeq f s
  | .iwVne f => Sys2Proof.Machine.execIwVne f s
  | .iwVge f => Sys2Proof.Machine.execIwVge f s
  | .iwVcl f => Sys2Proof.Machine.execIwVcl f s
  | .iwVch f => Sys2Proof.Machine.execIwVch f s
  | .iwVcr f => Sys2Proof.Machine.execIwVcr f s
  | .iwVmrg f => Sys2Proof.Machine.execIwVmrg f s
  | .iwVand f => Sys2Proof.Machine.execIwVand f s
  | .iwVnand f => Sys2Proof.Machine.execIwVnand f s
  | .iwVor f => Sys2Proof.Machine.execIwVor f s
  | .iwVnor f => Sys2Proof.Machine.execIwVnor f s
  | .iwVxor f => Sys2Proof.Machine.execIwVxor f s
  | .iwVnxor f => Sys2Proof.Machine.execIwVnxor f s
  | .iwV46 f => Sys2Proof.Machine.execIwV46 f s
  | .iwV47 f => Sys2Proof.Machine.execIwV47 f s
  | .iwVrcp f => Sys2Proof.Machine.execIwVrcp f s
  | .iwVrcpl f => Sys2Proof.Machine.execIwVrcpl f s
  | .iwVrcph f => Sys2Proof.Machine.execIwVrcph f s
  | .iwVmov f => Sys2Proof.Machine.execIwVmov f s
  | .iwVrsq f => Sys2Proof.Machine.execIwVrsq f s
  | .iwVrsql f => Sys2Proof.Machine.execIwVrsql f s
  | .iwVrsqh f => Sys2Proof.Machine.execIwVrsqh f s
  | .iwVnop f => Sys2Proof.Machine.execIwVnop f s
  | .iwVextt f => Sys2Proof.Machine.execIwVextt f s
  | .iwVextq f => Sys2Proof.Machine.execIwVextq f s
  | .iwVextn f => Sys2Proof.Machine.execIwVextn f s
  | .iwV59 f => Sys2Proof.Machine.execIwV59 f s
  | .iwVinst f => Sys2Proof.Machine.execIwVinst f s
  | .iwVinsq f => Sys2Proof.Machine.execIwVinsq f s
  | .iwVinsn f => Sys2Proof.Machine.execIwVinsn f s
  | .iwVnull f => Sys2Proof.Machine.execIwVnull f s

end Sys2Proof.Machine
end

