-- ==== Sys2Proof/Machine/Fetch.lean ====
section
/-! DEFINITION. How a command reaches the block (spec/30_encoding.md R70, spec/70_reset_and_hazards.md R230, R232): the
host's next command is taken, its data ports are presented, and its word is decoded. -/
namespace Sys2Proof.Machine

/-- The state in which the host's next command executes: its data on the input ports, the rest still to come. -/
def State.accept (s : State) (r : Request) (rest : List Request) : State :=
  { s with din := r.din, pending := rest }

/-- The instruction a command is, or its refusal, in the order of R205. -/
def Request.fetch (r : Request) : Except CommandRefusal Instr :=
  match r.driver with
  | .own => decodeCommand r.word
  | .other => .error .sharedContext

/-- The command word of DISPATCH (R73). -/
def dispatchWord : Word32 := 0x50000000

/-- The command by which a word of the opcode table is run (log 13): a command word as it is; an instruction word
on `DIN_I` of a DISPATCH (R76, R180). DESIGN CHOICE (log 20): the other ports hold what `din` gives them. -/
def requestOf (din : DataIn) : InstrWord → Request
  | .command w => { driver := .own, word := w, din := din }
  | .slotWord w => { driver := .own, word := dispatchWord, din := { din with i := w } }

end Sys2Proof.Machine
end

