-- ==== Sys2Proof/Machine/Step.lean ====
section
/-! DEFINITION. One step: one command of the host's list (spec/30_encoding.md R70). -/
namespace Sys2Proof.Machine

/-- Take the next command and execute it, or record its refusal (R204); with no command the block makes no
progress (93 U6). -/
def step (s : State) : Host.Outcome State Fault Refusal :=
  match s.pending with
  | [] => .fault .noCommand
  | r :: rest =>
    match r.fetch with
    | .ok i => exec i (s.accept r rest)
    | .error q => .next ((s.accept r rest).refuse q)

/-- The state whose next command is the one that runs the table word `w` (log 3, log 13). -/
def State.withFetchWord (s : State) (nbits w : Nat) : State :=
  { s with pending := requestOf s.din (tableWord (BitVec.ofNat 32 (w % 2 ^ nbits))) :: s.pending }

end Sys2Proof.Machine
end

