-- ==== Sys2Proof/WellFormed.lean ====
section
/-! DEFINITION. Well-formedness. The fields of `Instr` have the types of the spec's index spaces, in which every
value is valid (spec/20_memory.md R51), so an instruction has no ill-formed operand. Two things can be ill-formed:
a command word (spec/30_encoding.md R72, R74) and a pseudo-instruction (R85). -/
namespace Sys2Proof

/-- A command word the block admits (R72, R74). -/
def wellFormedCommandWord (w : Word32) : Bool :=
  match decodeCommand w with
  | .ok _ => true
  | .error _ => false

/-- "an assembler must refuse it" when the scratch register is the destination (R85). -/
def Pseudo.wellFormed : Pseudo → Bool
  | .vcmpge vd _ vt => vt != vd
  | .vcmple vd _ vt => vt != vd
  | .vcmpne vd _ vt => vt != vd
  | .vnot vd vt => vt != vd
  | .vmov _ _ => true
  | .vclr _ => true

end Sys2Proof
end

