-- ==== Sys2Proof/Machine/Expand.lean ====
section
/-! DEFINITION. Pseudo-instructions as sequences of commands (spec/30_encoding.md R85). -/
namespace Sys2Proof.Machine

/-- The expansions of R85; an ill-formed pseudo-instruction has none. -/
def expandPseudo (p : Pseudo) : Option (List Instr) :=
  if p.wellFormed then
    some <| match p with
      | .vcmpge vd vs vt => [.vcmplt vd vs, .vfill vt, .vxor vd vt]
      | .vcmple vd vs vt => [.vcmpgt vd vs, .vfill vt, .vxor vd vt]
      | .vcmpne vd vs vt => [.vcmpeq vd vs, .vfill vt, .vxor vd vt]
      | .vnot vd vt => [.vfill vt, .vxor vd vt]
      | .vmov vd vs => [.vcopy vd vs]
      | .vclr vd => [.vwipe vd]
  else none

/-- Execute instructions one after the other. -/
def execAll : List Instr → State → Host.Outcome State Fault Refusal
  | [], s => .next s
  | i :: rest, s =>
    match exec i s with
    | .next t => execAll rest t
    | .fault r => .fault r
    | .refused r => .refused r

end Sys2Proof.Machine
end

