-- ==== Sys2Proof/Machine/Image.lean ====
section
/-! DEFINITION. The state image: 565 bytes, most significant byte first (spec/20_memory.md R53, R54). `imageByte` and
`Context.takeImage` are the table of R53 as a function of the context; `State.saveImage` is the save itself, by the
host's read commands and the ports they drive; `restoreCommands` is the restore. -/
namespace Sys2Proof.Machine

/-- The canonical image (R53). -/
abbrev Image := Vector Byte 565

/-- The byte of a 16-bit value at an even (high) or odd (low) offset. -/
def byteAt (w : Word16) (k : Nat) : Byte := if k % 2 = 0 then w.extractLsb' 8 8 else w.extractLsb' 0 8

/-- The byte at offset `k` of a stored vector: lane `k / 2`. -/
def vecByteAt (v : Vec) (k : Nat) : Byte := byteAt (v[k / 2 % 8]'(Nat.mod_lt _ (by decide))) k

/-- The byte at offset `k` of the image (the table of R53). -/
def imageByte (c : Context) (k : Nat) : Byte :=
  if k < 512 then vecByteAt (c.vr[k / 16 % 32]'(Nat.mod_lt _ (by decide))) (k % 16)
  else if k < 528 then vecByteAt c.accH (k - 512)
  else if k < 544 then vecByteAt c.accM (k - 528)
  else if k < 560 then vecByteAt c.accL (k - 544)
  else if k < 562 then byteAt c.vco (k - 560)
  else if k < 564 then byteAt c.vcc (k - 562)
  else c.vce

/-- Every element, in the order of the image. DESIGN CHOICE (log 19): the first unwritten one is reported. -/
def imageElements : List Element :=
  (List.finRange 32).flatMap vrElements ++ accElements ++ vcoElements ++ vccElements ++ vceElements

/-- The image of a context, read off the table of R53; it exists only when every mark is set. -/
def Context.takeImage (c : Context) : Except CommandFault Image := do
  c.require imageElements
  return Vector.ofFn fun k => imageByte c k.val

/-- The 16-bit value stored at offset `k`. -/
def imageWord (img : Image) (k : Nat) (h : k + 1 < 565) : Word16 := img[k] ++ img[k + 1]

/-- The vector stored at offset `k`. -/
def imageVec (img : Image) (k : Nat) (h : k + 15 < 565) : Vec :=
  lanes fun i => imageWord img (k + 2 * i.val) (by omega)

/-- A command of the host with its data (R230). -/
def hostCommand (i : Instr) (din : DataIn) : Request := requestOf din (encode i)

/-- The host issues one command next (R230). -/
def State.issue (s : State) (r : Request) : Host.Outcome State Fault Refusal :=
  step { s with pending := r :: s.pending }

/-- The low `n` bytes of a port value, most significant first (R53). On a vector port that is lane 0 first (R52). -/
def bytesOf {w : Nat} (n : Nat) (x : BitVec w) : List Byte :=
  (List.range n).map fun k => x.extractLsb' (8 * (n - 1 - k)) 8

/-- A read command of a save, and the image bytes on the port it drives; `none` where it did not drive the port. -/
abbrev ImageRead := Instr × (DataOut → Option (List Byte))

def readImageVr (r : VReg) : ImageRead := (.vread r, fun o => o.v.map (bytesOf 16))

/-- The commands that save an image, VREAD, ACCRD and GET*, in the order of the image (R53). -/
def imageReads : List ImageRead :=
  (List.finRange 32).map readImageVr ++
  [(.accrd, fun o => o.acc.map (bytesOf 48)), (.getvco, fun o => o.p.map (bytesOf 2)),
   (.getvcc, fun o => o.p.map (bytesOf 2)), (.getvce, fun o => o.p.map (bytesOf 1))]

/-- Issue the reads one after the other and join their bytes. A read that faults drives no data port; its fault is on
record and on the `FAULT` port (R204). DESIGN CHOICE (log 19): the save ends there, without an image. -/
def State.readBytes (s : State) : List ImageRead → Host.Outcome (State × Option (List Byte)) Fault Refusal
  | [] => .next (s, some [])
  | rd :: rest =>
    match s.issue (hostCommand rd.1 s.din) with
    | .fault f => .fault f
    | .refused q => .refused q
    | .next t =>
      match rd.2 t.dout with
      | none => .next (t, none)
      | some bytes =>
        match t.readBytes rest with
        | .fault f => .fault f
        | .refused q => .refused q
        | .next (u, more) => .next (u, more.map (bytes ++ ·))

/-- The bytes as an image, if there are 565. -/
def imageOfBytes (bytes : List Byte) : Option Image :=
  if h : bytes.length = 565 then some ⟨bytes.toArray, by simpa using h⟩ else none

/-- Save the state image by commands (R53): the state after the last command, and the image, if every read drove its
port. -/
def State.saveImage (s : State) : Host.Outcome (State × Option Image) Fault Refusal :=
  match s.readBytes imageReads with
  | .fault f => .fault f
  | .refused q => .refused q
  | .next (t, bytes) => .next (t, bytes.bind imageOfBytes)

/-- The VWRITE that restores register `r` (R54). DESIGN CHOICE (log 20): the ports it does not read hold zero. -/
def restoreVr (img : Image) (r : VReg) : Request :=
  hostCommand (.vwrite r) { v := vecBits (imageVec img (16 * r.val) (by omega)) }

/-- The commands that restore an image (R53, R54). DESIGN CHOICE (log 20): the input ports a command does not read,
and `DIN_P[15:8]` of SETVCE, which R155 ignores, hold zero. -/
def restoreCommands (img : Image) : List Request :=
  (List.finRange 32).map (restoreVr img) ++
  [hostCommand .accwr
    { acc := accPort (imageVec img 512 (by decide)) (imageVec img 528 (by decide)) (imageVec img 544 (by decide)) },
   hostCommand .setvco { p := imageWord img 560 (by decide) },
   hostCommand .setvcc { p := imageWord img 562 (by decide) },
   hostCommand .setvce { p := (img[564]).zeroExtend 16 }]

end Sys2Proof.Machine
end

