-- ==== Sys2Proof/Safety.lean ====
section
/-! DEFINITION. What claims are stated in: a clean run (spec/70_reset_and_hazards.md R231, R232), what can be observed
of a context (spec/10_state.md R39), and the contract of a handler (spec/44_dispatch.md R183). -/
namespace Sys2Proof.Machine

/-- No fault or refusal is on record (R231). -/
def State.clean (s : State) : Bool := s.fault.isNone && s.refused.isNone

/-- Every element of the context is written (R53). -/
abbrev Context.AllWritten (c : Context) : Prop := ∀ el : Element, c.written el = true

/-- The end of a run: the outcome of the host's last command (R232). -/
def State.runToEnd (s : State) : Host.Outcome State Fault Refusal :=
  Host.Core.run Sys2Proof.core s.pending.length s

/-- Two contexts that agree on every written element and on which elements are written: nothing the spec gives a
value distinguishes them (R39). -/
structure Context.SameView (c d : Context) : Prop where
  vr : ∀ r : VReg, c.maybeVr r = d.maybeVr r
  acc : c.maybeAcc = d.maybeAcc
  vco : c.maybeVco = d.maybeVco
  vcc : c.maybeVcc = d.maybeVcc
  vce : c.maybeVce = d.maybeVce

/-- Two states alike but for the values stored under clear marks. -/
structure State.SameView (s t : State) : Prop where
  cfg : s.cfg = t.cfg
  ctx : s.ctx.SameView t.ctx
  fault : s.fault = t.fault
  refused : s.refused = t.refused
  din : s.din = t.din
  dout : s.dout = t.dout
  pending : s.pending = t.pending

/-- `b` has every value `a` has. -/
def Fills {α : Type} {n : Nat} (a b : Vector (Option α) n) : Prop :=
  ∀ i : Fin n, a[i] = none ∨ a[i] = b[i]

/-- `b` is `a` with some unwritten elements given values. -/
structure HandlerIn.Fills (a b : HandlerIn) : Prop where
  iw : a.iw = b.iw
  dest : Machine.Fills a.dest b.dest
  shuffled : Machine.Fills a.shuffled b.shuffled
  raw : Machine.Fills a.raw b.raw
  acc : Machine.Fills a.acc b.acc
  vco : Machine.Fills a.vco b.vco
  vcc : Machine.Fills a.vcc b.vcc
  vce : Machine.Fills a.vce b.vce

/-- R183 item 2: a handler whose result depends on an unwritten element faults, so an answer it gives without a
fault is the same whatever the unwritten elements hold. -/
def Handler.ReadsOnlyWritten (h : Handler) : Prop :=
  ∀ (a b : HandlerIn) (out : HandlerOut), HandlerIn.Fills a b → h a = .ok out → h b = .ok out

end Sys2Proof.Machine
end

