-- ==== Sys2Proof/Certificates/Slice0/Obligations.lean ====
section
/-! DEFINITION. The statements for the provers. Each docstring names the rule of spec/ it formalises. Words shared by
several statements stand first, in `Sys2Proof.Claims`. Where a rule says that a command raises a fault, its statement
says so as `.next (s.raise f)`: R204 gives the state a fault leaves, and that it is a next state of the model is log 1. -/
open Sys2Proof Sys2Proof.Machine

namespace Sys2Proof.Claims

/-- Every lane of a register is written. -/
abbrev FullVr (c : Context) (r : VReg) : Prop := ∀ i : Lane, c.wvr[r][i] = true

/-- `j` is the lowest unwritten lane of register `r`. -/
abbrev LowestVr (c : Context) (r : VReg) (j : Lane) : Prop :=
  c.wvr[r][j] = false ∧ ∀ k : Lane, k < j → c.wvr[r][k] = true

/-- `j` is the lowest position at which `w` is clear. -/
abbrev LowestClear {n : Nat} (w : Vector Bool n) (j : Fin n) : Prop :=
  w[j] = false ∧ ∀ k : Fin n, k < j → w[k] = true

/-- `s` after a command that writes `v` to all of register `rd`, marks it, and does nothing else: every other
register, the accumulator, the flags, their marks, the records and the configuration are as before, and no output
port is driven. -/
def wroteVr (s : State) (rd : VReg) (v : Vec) : State :=
  { s with
    ctx := { s.ctx with vr := s.ctx.vr.set rd v, wvr := s.ctx.wvr.set rd (Vector.replicate 8 true) }
    dout := {} }

/-- `s` after a command that only drives output ports. -/
def drove (s : State) (o : DataOut) : State := { s with dout := o }

/-- The accumulator, the flags and all their marks are the same in both contexts. -/
abbrev SameAccAndFlags (c d : Context) : Prop :=
  c.accH = d.accH ∧ c.accM = d.accM ∧ c.accL = d.accL ∧ c.wacc = d.wacc ∧ c.vco = d.vco ∧ c.vcc = d.vcc ∧
    c.vce = d.vce ∧ c.wvco = d.wvco ∧ c.wvcc = d.wvcc ∧ c.wvce = d.wvce

/-- The three flag registers and their marks are the same in both contexts. -/
abbrev SameFlags (c d : Context) : Prop :=
  c.vco = d.vco ∧ c.vcc = d.vcc ∧ c.vce = d.vce ∧ c.wvco = d.wvco ∧ c.wvcc = d.wvcc ∧ c.wvce = d.wvce

/-- The accumulator slices and marks are the same in both contexts. -/
abbrev SameAcc (c d : Context) : Prop :=
  c.accH = d.accH ∧ c.accM = d.accM ∧ c.accL = d.accL ∧ c.wacc = d.wacc

/-- `t` is `s` with a handler's answer written back to register `vd` (R180): all of `VR[vd]`, whole accumulator
lanes, whole flag registers, and nothing else. -/
def WroteBack (s t : State) (vd : VReg) (out : HandlerOut) : Prop :=
  t = { s with ctx := t.ctx, dout := {} } ∧
  (∀ r : VReg, t.ctx.vr[r] = (if r = vd then out.result else s.ctx.vr[r]) ∧
    ∀ i : Lane, t.ctx.wvr[r][i] = (decide (r = vd) || s.ctx.wvr[r][i])) ∧
  (∀ i : Lane, t.ctx.accH[i] ++ t.ctx.accM[i] ++ t.ctx.accL[i] =
      (out.acc[i]).getD (s.ctx.accH[i] ++ s.ctx.accM[i] ++ s.ctx.accL[i]) ∧
    t.ctx.wacc[i] = ((out.acc[i]).isSome || s.ctx.wacc[i])) ∧
  t.ctx.vco = out.vco.getD s.ctx.vco ∧ (∀ k : Fin 16, t.ctx.wvco[k] = (out.vco.isSome || s.ctx.wvco[k])) ∧
  t.ctx.vcc = out.vcc.getD s.ctx.vcc ∧ (∀ k : Fin 16, t.ctx.wvcc[k] = (out.vcc.isSome || s.ctx.wvcc[k])) ∧
  t.ctx.vce = out.vce.getD s.ctx.vce ∧ (∀ k : Fin 8, t.ctx.wvce[k] = (out.vce.isSome || s.ctx.wvce[k]))

/-- The operation codes of R73 with the bits of the fields each command uses (`rd` 23:19, `rs` 18:14, `e` 13:10,
`lane` 9:7). -/
def usedFields : List (BitVec 8 × Word32) :=
  [(0x01, 0x00FFC000), (0x02, 0x00F80000), (0x03, 0x00F80000), (0x04, 0x00FFC000), (0x05, 0x00FFC000),
   (0x06, 0x00FFC000), (0x07, 0x00FFC000), (0x08, 0x00FFC000), (0x09, 0x00FFC000)] ++
  [(0x10, 0x00FFFC00), (0x11, 0x0007C000), (0x12, 0x00F80000)] ++
  [(0x20, 0), (0x21, 0), (0x22, 0), (0x24, 0), (0x25, 0), (0x26, 0)] ++
  [(0x30, 0x00F80000), (0x31, 0x00F80000), (0x32, 0x00F80000), (0x33, 0x00F80000), (0x34, 0x00F80000)] ++
  [(0x38, 0x0007C000), (0x39, 0x0007C000), (0x3A, 0x0007C000), (0x3B, 0x0007C000), (0x3C, 0x0007C000)] ++
  [(0x40, 0), (0x41, 0), (0x42, 0x00000380), (0x43, 0x00000380), (0x50, 0), (0x7F, 0)]

/-- The nine elementwise commands on `rd` and `rs`. -/
def elementwise (rd rs : VReg) : List Instr :=
  [.vcopy rd rs, .vwipe rd, .vfill rd, .vand rd rs, .vor rd rs, .vxor rd rs, .vcmplt rd rs, .vcmpeq rd rs, .vcmpgt rd rs]

/-- The instruction is a slot of an instruction word. -/
def isSlot (i : Instr) : Bool :=
  match encode i with
  | .slotWord _ => true
  | .command _ => false

/-- The register an instruction other than RESET may write. -/
def destination (i : Instr) (s : State) : Option VReg :=
  match encode i with
  | .slotWord w => some (operandsOfWord w).vd
  | .command _ =>
    match i with
    | .vcopy rd _ | .vwipe rd | .vfill rd | .vand rd _ | .vor rd _ | .vxor rd _ => some rd
    | .vcmplt rd _ | .vcmpeq rd _ | .vcmpgt rd _ | .vshuf rd _ _ | .vwrite rd => some rd
    | .xrdCo rd | .xrdNe rd | .xrdLt rd | .xrdGe rd | .xrdCe rd => some rd
    | .dispatch => some (operandsOfWord s.din.i).vd
    | _ => none

/-- One of the reads of R58. -/
def isRead : Instr → Bool
  | .vread _ | .accrd | .accrdl _ | .getvco | .getvcc | .getvce => true
  | _ => false

/-- A mask register: every lane is all-ones or all-zero. -/
abbrev Canonical (m : Vec) : Prop := ∀ i : Lane, m[i] = 0xFFFF ∨ m[i] = 0x0000

/-- `new` is `old` with the low byte written from the mask `m`, and so are the marks. -/
def LowByteSet (m : Vec) (old new : Word16) (wold wnew : Vector Bool 16) : Prop :=
  ∀ k : Fin 16, new.getLsbD k = (if h : k.val < 8 then decide (m[k.val] = 0xFFFF) else old.getLsbD k) ∧
    wnew[k] = (decide (k.val < 8) || wold[k])

/-- `new` is `old` with the high byte written from the mask `m`, and so are the marks. -/
def HighByteSet (m : Vec) (old new : Word16) (wold wnew : Vector Bool 16) : Prop :=
  ∀ k : Fin 16, new.getLsbD k = (if h : 8 ≤ k.val then decide (m[k.val - 8] = 0xFFFF) else old.getLsbD k) ∧
    wnew[k] = (decide (8 ≤ k.val) || wold[k])

end Sys2Proof.Claims

open Sys2Proof.Claims

/-! ## Encoding and the step -/

/-- Words of the spec's examples and vectors decode to the instructions they are given for (R73, 95_test_vectors.md). -/
def Obligations.SpecWordsDecode : Prop :=
  decodeCommand 0x01104000 = .ok (.vcopy 2 1) ∧ decodeCommand 0x02200000 = .ok (.vwipe 4) ∧
  decodeCommand 0x07088000 = .ok (.vcmplt 1 2) ∧ decodeCommand 0x10106800 = .ok (.vshuf 2 1 10) ∧
  decodeCommand 0x1100C000 = .ok (.vread 3) ∧ decodeCommand 0x12180000 = .ok (.vwrite 3) ∧
  decodeCommand 0x3A020000 = .ok (.xwrLt 8) ∧ decodeCommand 0x42000180 = .ok (.accrdl 3) ∧
  decodeCommand 0x50000000 = .ok .dispatch ∧ decodeCommand 0x7F000000 = .ok .reset ∧
  decodeSlotWord 0x4A0208E8 = .iwVand ⟨0x25, 0, 2, 1, 3⟩ ∧
  decodeCommand 0x00000000 = .error (.reservedCommand 0x00000000) ∧
  decodeCommand 0x01088001 = .error (.nonZeroUnusedField 0x01088001)

/-- Decoding the word of an instruction gives the instruction back, for all 98 and every operand value (R71, R73, R77). -/
def Obligations.DecodeOfEncode : Prop :=
  ∀ i : Instr, decodeWord (encode i) = .ok i

/-- An accepted word means one thing: it is the word of the instruction it decodes to (R72); and every instruction
word is the word of the slot it decodes to (R80). -/
def Obligations.EncodeOfDecode : Prop :=
  (∀ (w : Word32) (i : Instr), decodeCommand w = .ok i → encode i = .command w) ∧
  (∀ w : Word32, encode (decodeSlotWord w) = .slotWord w)

/-- A command word is refused `ReservedCommand` exactly when its `op` is not in the table of R73, `NonZeroUnusedField`
exactly when its `op` is there and a bit outside `op` and the fields of the command is set, and is accepted
otherwise (R72, R74). -/
def Obligations.RefusalOfCommandWords : Prop :=
  ∀ w : Word32,
    (decodeCommand w = .error (.reservedCommand w) ↔ ∀ p ∈ usedFields, p.1 ≠ w.extractLsb' 24 8) ∧
    (∀ p ∈ usedFields, p.1 = w.extractLsb' 24 8 →
      (w &&& ~~~(0xFF000000 ||| p.2) = 0 → ∃ i, decodeCommand w = .ok i) ∧
      (w &&& ~~~(0xFF000000 ||| p.2) ≠ 0 → decodeCommand w = .error (.nonZeroUnusedField w)))

/-- A step executes the decoded command on the state in which its data ports are presented and the rest of the
host's list is still to come (R70). -/
def Obligations.StepRunsDecodedCommand : Prop :=
  ∀ (s : State) (r : Request) (rest : List Request) (i : Instr),
    s.pending = r :: rest → r.driver = .own → decodeCommand r.word = .ok i →
    step s = exec i { s with din := r.din, pending := rest }

/-- A refused command changes only the ports, the refusal record and the host's list; a second driver is refused
before its word is looked at (R204, R205). -/
def Obligations.RefusedCommandWritesNothing : Prop :=
  ∀ (s : State) (r : Request) (rest : List Request) (q : CommandRefusal),
    s.pending = r :: rest →
    (r.driver = .other ∧ q = .sharedContext ∨ r.driver = .own ∧ decodeCommand r.word = .error q) →
    ∃ t, step s = .next t ∧
      t = { s with din := r.din, pending := rest, dout := { report := some (.refusal q) }, refused := t.refused } ∧
      (s.refused = none → t.refused = some q) ∧ t.refused.isSome = true

/-- Without a command the block makes no progress (93 U6). That the model then stops by name is its own choice (log 3). -/
def Obligations.NoCommandNoProgress : Prop :=
  ∀ s : State, step s = .fault .noCommand ↔ s.pending = []

/-- Every run of commands ends in a next state with no command left (R66, R232). That a command which faults or is
refused is a next state is the model's reading of R204 (log 1); that the commands stand in a list is log 3. -/
def Obligations.EveryRunCompletes : Prop :=
  ∀ s : State, ∃ t, s.runToEnd = .next t ∧ t.pending = []

/-- Commands take effect in issue order (R59): a longer list of commands runs as its first part and then, from the
state that leaves, its second part. The list is the model's own (log 3). -/
def Obligations.CommandsRunInIssueOrder : Prop :=
  ∀ (s t : State) (first later : List Request),
    { s with pending := first }.runToEnd = .next t →
    { s with pending := first ++ later }.runToEnd = { t with pending := later }.runToEnd

/-- A word of the opcode table, placed as the next command, runs the instruction it decodes to. How it is placed is the
model's choice (log 13). -/
def Obligations.TableWordRunsItsInstruction : Prop :=
  ∀ (s : State) (w : Nat) (i : Instr), decodeTableWord 32 w = some i →
    ∃ din : DataIn, step (s.withFetchWord 32 w) = exec i { s with din := din } ∧
      din.v = s.din.v ∧ din.p = s.din.p ∧ din.a = s.din.a ∧ din.acc = s.din.acc

/-! ## Faults, records, configuration -/

/-- A fault writes no architectural state and no mark; it sets the record and the FAULT port, and sends a text to the
diagnostic sink only for `UnimplementedOpcode` (R203, R204). -/
def Obligations.RaiseSetsOnlyTheRecord : Prop :=
  ∀ (s : State) (f : CommandFault),
    s.raise f = { s with fault := (s.raise f).fault, dout := (s.raise f).dout } ∧
    (s.fault = none → (s.raise f).fault = some f) ∧ (s.raise f).fault.isSome = true ∧
    (s.raise f).dout.report = some (.fault f) ∧
    (s.raise f).dout.v = none ∧ (s.raise f).dout.p = none ∧ (s.raise f).dout.a = none ∧ (s.raise f).dout.acc = none ∧
    ((s.raise f).dout.diag.isSome = true ↔ ∃ slot iw, f = .unimplementedOpcode slot iw)

/-- Whatever the instruction: if it faults, nothing but the record and the ports changes, and if it does not, both
records stay as they were (R204). -/
def Obligations.FaultingInstructionWritesNothing : Prop :=
  ∀ (i : Instr) (s : State), ∃ t, exec i s = .next t ∧
    ((∃ f, t.dout.report = some (.fault f) ∧ t = { s with fault := t.fault, dout := t.dout } ∧
        (s.fault = none → t.fault = some f) ∧ t.fault.isSome = true) ∨
      (t.dout.report = none ∧ t.fault = s.fault ∧ t.refused = s.refused))

/-- The records are sticky: no step, RESET included, clears one (R204). -/
def Obligations.RecordsAreSticky : Prop :=
  ∀ s t : State, step s = .next t →
    (s.fault.isSome = true → t.fault.isSome = true) ∧ (s.refused.isSome = true → t.refused.isSome = true)

/-- What the FAULT port shows is on record: an invariant of every step (R201, R204). -/
def Obligations.ReportsStayOnRecord : Prop :=
  ∀ s t : State, step s = .next t →
    ((∃ f, t.dout.report = some (.fault f)) → t.fault.isSome = true) ∧
    ((∃ q, t.dout.report = some (.refusal q)) → t.refused.isSome = true)

/-- No step changes the configuration (R40). -/
def Obligations.ConfigurationNeverChanges : Prop :=
  ∀ s t : State, step s = .next t → t.cfg = s.cfg

/-! ## Reset -/

/-- RESET (R220): under `UNWRITTEN` every mark is cleared; under `ZERO` every element is zero and marked; the
configuration, the records and the input ports are unchanged. -/
def Obligations.ResetRule : Prop :=
  decodeCommand 0x7F000000 = .ok .reset ∧
  ∀ s : State, ∃ t, exec .reset s = .next t ∧ t = { s with ctx := t.ctx, dout := {} } ∧
    (s.cfg.resetPolicy = .unwritten → ∀ el, t.ctx.written el = false) ∧
    (s.cfg.resetPolicy = .zero → (∀ el, t.ctx.written el = true) ∧
      (∀ (r : VReg) (i : Lane), t.ctx.vr[r][i] = 0) ∧
      (∀ i : Lane, t.ctx.accH[i] = 0 ∧ t.ctx.accM[i] = 0 ∧ t.ctx.accL[i] = 0) ∧
      t.ctx.vco = 0 ∧ t.ctx.vcc = 0 ∧ t.ctx.vce = 0)

/-- A context at creation equals the one RESET leaves, with an empty fault and refusal record (R221). -/
def Obligations.CreationEqualsReset : Prop :=
  ∀ (s : State), ∃ t, exec .reset s = .next t ∧ t.ctx = (State.created s.cfg).ctx ∧
    (State.created s.cfg).fault = none ∧ (State.created s.cfg).refused = none

/-- The state after reset: the default policy, every mark clear, no record, nothing driven and no command issued
(R43). The ports and the list are the model's choice (log 3, log 5). -/
def Obligations.ResetStateValues : Prop :=
  State.reset.cfg.resetPolicy = .unwritten ∧ (∀ el, State.reset.ctx.written el = false) ∧
  State.reset.fault = none ∧ State.reset.refused = none ∧ State.reset.dout = {} ∧ State.reset.pending = []

/-- Under `ZERO`, "every element is written" is kept by every step (R39, R220). -/
def Obligations.ZeroPolicyKeepsAllWritten : Prop :=
  ∀ s t : State, s.cfg.resetPolicy = .zero → s.ctx.AllWritten → step s = .next t →
    t.cfg.resetPolicy = .zero ∧ t.ctx.AllWritten

/-- An instance created under `ZERO` has every element written (R43). -/
def Obligations.ZeroCreationAllWritten : Prop :=
  ∀ cfg : Config, cfg.resetPolicy = .zero →
    (State.created cfg).cfg.resetPolicy = .zero ∧ (State.created cfg).ctx.AllWritten

/-- With every element written, no command faults `ReadBeforeWrite` (R39). -/
def Obligations.AllWrittenNeverReadsBeforeWrite : Prop :=
  ∀ (s t : State) (el : Element), s.ctx.AllWritten → step s = .next t →
    t.dout.report ≠ some (.fault (.readBeforeWrite el))

/-- Marks are cleared only by RESET (R39). -/
def Obligations.OnlyResetClearsMarks : Prop :=
  ∀ (i : Instr) (s t : State) (el : Element), i ≠ .reset → exec i s = .next t →
    s.ctx.written el = true → t.ctx.written el = true

/-- The value stored under a clear mark reaches nothing: states that differ only there are led by every instruction
to states that differ only there (R39). -/
def Obligations.UnwrittenValuesAreUnobservable : Prop :=
  ∀ (i : Instr) (s t : State), s.SameView t →
    ∃ s' t', exec i s = .next s' ∧ exec i t = .next t' ∧ s'.SameView t'

/-! ## Register file and accumulator -/

/-- VREAD (R100). -/
def Obligations.VreadRule : Prop :=
  ∀ (rs : VReg) (s : State),
    decodeCommand (cmdWord 0x11 0 rs 0 0) = .ok (.vread rs) ∧
    (FullVr s.ctx rs → exec (.vread rs) s = .next (drove s { v := some (vecBits s.ctx.vr[rs]) })) ∧
    (∀ j, LowestVr s.ctx rs j → exec (.vread rs) s = .next (s.raise (.readBeforeWrite (.vr rs j))))

/-- VWRITE (R101): lane `i` from `DIN_V[127-16i : 112-16i]`. -/
def Obligations.VwriteRule : Prop :=
  ∀ (rd : VReg) (s : State),
    decodeCommand (cmdWord 0x12 rd 0 0 0) = .ok (.vwrite rd) ∧
    ∃ v : Vec, (∀ i : Lane, v[i] = s.din.v.extractLsb' (112 - 16 * i.val) 16) ∧
      exec (.vwrite rd) s = .next (wroteVr s rd v)

/-- ACCRD and ACCRDL (R102, R104). -/
def Obligations.AccumulatorReadRule : Prop :=
  ∀ (lane : Lane) (s : State),
    decodeCommand 0x40000000 = .ok .accrd ∧ decodeCommand (cmdWord 0x42 0 0 0 lane) = .ok (.accrdl lane) ∧
    ((∀ i : Lane, s.ctx.wacc[i] = true) → exec .accrd s = .next (drove s
      { acc := some (vecBits s.ctx.accH ++ vecBits s.ctx.accM ++ vecBits s.ctx.accL) })) ∧
    (∀ j, LowestClear s.ctx.wacc j → exec .accrd s = .next (s.raise (.readBeforeWrite (.acc j)))) ∧
    (s.ctx.wacc[lane] = true → exec (.accrdl lane) s = .next (drove s
      { a := some (s.ctx.accH[lane] ++ s.ctx.accM[lane] ++ s.ctx.accL[lane]) })) ∧
    (s.ctx.wacc[lane] = false → exec (.accrdl lane) s = .next (s.raise (.readBeforeWrite (.acc lane))))

/-- ACCWR and ACCWRL (R103, R105): the three slices of each written lane together, the other lanes unchanged. -/
def Obligations.AccumulatorWriteRule : Prop :=
  ∀ (lane : Lane) (s : State),
    decodeCommand 0x41000000 = .ok .accwr ∧ decodeCommand (cmdWord 0x43 0 0 0 lane) = .ok (.accwrl lane) ∧
    (∃ t, exec .accwr s = .next t ∧
      t = { s with ctx := { s.ctx with accH := t.ctx.accH, accM := t.ctx.accM, accL := t.ctx.accL, wacc := t.ctx.wacc }
                   dout := {} } ∧
      ∀ i : Lane, t.ctx.accH[i] = s.din.acc.extractLsb' (256 + (112 - 16 * i.val)) 16 ∧
        t.ctx.accM[i] = s.din.acc.extractLsb' (128 + (112 - 16 * i.val)) 16 ∧
        t.ctx.accL[i] = s.din.acc.extractLsb' (112 - 16 * i.val) 16 ∧ t.ctx.wacc[i] = true) ∧
    (∃ t, exec (.accwrl lane) s = .next t ∧
      t = { s with ctx := { s.ctx with accH := t.ctx.accH, accM := t.ctx.accM, accL := t.ctx.accL, wacc := t.ctx.wacc }
                   dout := {} } ∧
      ∀ i : Lane,
        t.ctx.accH[i] = (if i = lane then s.din.a.extractLsb' 32 16 else s.ctx.accH[i]) ∧
        t.ctx.accM[i] = (if i = lane then s.din.a.extractLsb' 16 16 else s.ctx.accM[i]) ∧
        t.ctx.accL[i] = (if i = lane then s.din.a.extractLsb' 0 16 else s.ctx.accL[i]) ∧
        t.ctx.wacc[i] = (decide (i = lane) || s.ctx.wacc[i]))

/-- What is written is read back: the laws that R107 derives from R100 to R105. -/
def Obligations.StoreRoundTrips : Prop :=
  ∀ (r : VReg) (k : Lane) (s : State),
    (∃ t, exec (.vwrite r) s = .next t ∧ exec (.vread r) t = .next (drove t { v := some s.din.v })) ∧
    (∃ t, exec (.accwrl k) s = .next t ∧ exec (.accrdl k) t = .next (drove t { a := some s.din.a })) ∧
    (∃ t, exec .accwr s = .next t ∧ exec .accrd t = .next (drove t { acc := some s.din.acc }))

/-- The signed value of an accumulator lane from its slices (R25). -/
def Obligations.AccumulatorLaneValue : Prop :=
  ∀ (c : Context) (i : Lane),
    (c.accLane i).toInt = c.accH[i].toInt * 2 ^ 32 + (c.accM[i].toNat : Int) * 2 ^ 16 + (c.accL[i].toNat : Int)

/-- Only ACCWR, ACCWRL, RESET and a handler write the accumulator (R27). -/
def Obligations.AccumulatorWriters : Prop :=
  ∀ (i : Instr) (s t : State), exec i s = .next t →
    i ≠ .accwr → (∀ lane, i ≠ .accwrl lane) → i ≠ .reset → i ≠ .dispatch → isSlot i = false →
    SameAcc t.ctx s.ctx

/-- An instruction other than RESET changes no register but its destination, nor its marks (R23). -/
def Obligations.OtherRegistersUnchanged : Prop :=
  ∀ (i : Instr) (s t : State) (r : VReg), exec i s = .next t → i ≠ .reset → destination i s ≠ some r →
    t.ctx.vr[r] = s.ctx.vr[r] ∧ t.ctx.wvr[r] = s.ctx.wvr[r]

/-- Reads have no side effects and are idempotent (R58). -/
def Obligations.ReadsHaveNoSideEffects : Prop :=
  ∀ (i : Instr) (s : State), isRead i = true →
    ∃ t, exec i s = .next t ∧ t.ctx = s.ctx ∧ ∃ u, exec i t = .next u ∧ u.ctx = s.ctx ∧ u.dout = t.dout

/-- A port is driven only by the commands whose rules drive it (R75). -/
def Obligations.PortsDrivenOnlyByTheirCommands : Prop :=
  ∀ (i : Instr) (s t : State), exec i s = .next t →
    (t.dout.v.isSome = true → ∃ rs, i = .vread rs) ∧
    (t.dout.p.isSome = true → i = .getvco ∨ i = .getvcc ∨ i = .getvce) ∧
    (t.dout.a.isSome = true → ∃ lane, i = .accrdl lane) ∧
    (t.dout.acc.isSome = true → i = .accrd) ∧
    (t.dout.diag.isSome = true → i = .dispatch ∨ isSlot i = true)

/-! ## Elementwise -/

/-- VCOPY, VWIPE, VFILL (R121, R122, R123): only VCOPY reads a register, and that is `rs`. -/
def Obligations.CopyWipeFillRule : Prop :=
  ∀ (rd rs : VReg) (s : State),
    decodeCommand (cmdWord 0x01 rd rs 0 0) = .ok (.vcopy rd rs) ∧
    decodeCommand (cmdWord 0x02 rd 0 0 0) = .ok (.vwipe rd) ∧
    decodeCommand (cmdWord 0x03 rd 0 0 0) = .ok (.vfill rd) ∧
    (FullVr s.ctx rs → exec (.vcopy rd rs) s = .next (wroteVr s rd s.ctx.vr[rs])) ∧
    (∀ j, LowestVr s.ctx rs j → exec (.vcopy rd rs) s = .next (s.raise (.readBeforeWrite (.vr rs j)))) ∧
    exec (.vwipe rd) s = .next (wroteVr s rd (Vector.replicate 8 0x0000)) ∧
    exec (.vfill rd) s = .next (wroteVr s rd (Vector.replicate 8 0xFFFF))

/-- VAND, VOR, VXOR (R124, R125, R126), for every `rd` and `rs`, the same register included. -/
def Obligations.BitwiseRule : Prop :=
  ∀ (rd rs : VReg) (s : State) (i : Instr) (op : BitVec 8) (f : Word16 → Word16 → Word16),
    (i, op, f) ∈ [(Instr.vand rd rs, (0x04 : BitVec 8), fun a b : Word16 => a &&& b), (.vor rd rs, 0x05, fun a b => a ||| b),
      (.vxor rd rs, 0x06, fun a b => a ^^^ b)] →
    decodeCommand (cmdWord op rd rs 0 0) = .ok i ∧
    (FullVr s.ctx rd → FullVr s.ctx rs →
      ∃ v : Vec, (∀ k : Lane, v[k] = f s.ctx.vr[rd][k] s.ctx.vr[rs][k]) ∧ exec i s = .next (wroteVr s rd v)) ∧
    (∀ j, LowestVr s.ctx rd j → exec i s = .next (s.raise (.readBeforeWrite (.vr rd j)))) ∧
    (∀ j, FullVr s.ctx rd → LowestVr s.ctx rs j → exec i s = .next (s.raise (.readBeforeWrite (.vr rs j))))

/-- VCMPLT, VCMPEQ, VCMPGT (R127, R128, R129): signed compares of `VR[rd]` against `VR[rs]`. -/
def Obligations.CompareRule : Prop :=
  ∀ (rd rs : VReg) (s : State) (i : Instr) (op : BitVec 8) (rel : Int → Int → Bool),
    (i, op, rel) ∈ [(Instr.vcmplt rd rs, (0x07 : BitVec 8), fun a b : Int => decide (a < b)),
      (.vcmpeq rd rs, 0x08, fun a b => decide (a = b)), (.vcmpgt rd rs, 0x09, fun a b => decide (a > b))] →
    decodeCommand (cmdWord op rd rs 0 0) = .ok i ∧
    (FullVr s.ctx rd → FullVr s.ctx rs →
      ∃ v : Vec, (∀ k : Lane, v[k] = if rel s.ctx.vr[rd][k].toInt s.ctx.vr[rs][k].toInt then 0xFFFF else 0x0000) ∧
        exec i s = .next (wroteVr s rd v)) ∧
    (∀ j, LowestVr s.ctx rd j → exec i s = .next (s.raise (.readBeforeWrite (.vr rd j)))) ∧
    (∀ j, FullVr s.ctx rd → LowestVr s.ctx rs j → exec i s = .next (s.raise (.readBeforeWrite (.vr rs j))))

/-- The same register as source and destination: R134, which the spec derives from R121 to R131. -/
def Obligations.SameRegisterRule : Prop :=
  ∀ (r : VReg) (s : State), FullVr s.ctx r →
    exec (.vcopy r r) s = .next (wroteVr s r s.ctx.vr[r]) ∧
    exec (.vand r r) s = .next (wroteVr s r s.ctx.vr[r]) ∧
    exec (.vor r r) s = .next (wroteVr s r s.ctx.vr[r]) ∧
    exec (.vxor r r) s = .next (wroteVr s r (Vector.replicate 8 0x0000)) ∧
    exec (.vcmplt r r) s = .next (wroteVr s r (Vector.replicate 8 0x0000)) ∧
    exec (.vcmpeq r r) s = .next (wroteVr s r (Vector.replicate 8 0xFFFF)) ∧
    exec (.vcmpgt r r) s = .next (wroteVr s r (Vector.replicate 8 0x0000))

/-- Trichotomy (R130): of the three masks computed from the same operands, each lane is all-ones or
all-zero, the OR is all-ones in every lane and any two of them AND to zero. So exactly one is all-ones in each lane. -/
def Obligations.CompareTrichotomy : Prop :=
  ∀ (rd rs : VReg) (s : State), FullVr s.ctx rd → FullVr s.ctx rs →
    ∃ lt eq gt, exec (.vcmplt rd rs) s = .next lt ∧ exec (.vcmpeq rd rs) s = .next eq ∧
      exec (.vcmpgt rd rs) s = .next gt ∧
      ∀ k : Lane, lt.ctx.vr[rd][k] ||| eq.ctx.vr[rd][k] ||| gt.ctx.vr[rd][k] = 0xFFFF ∧
        lt.ctx.vr[rd][k] &&& eq.ctx.vr[rd][k] = 0 ∧ lt.ctx.vr[rd][k] &&& gt.ctx.vr[rd][k] = 0 ∧
        eq.ctx.vr[rd][k] &&& gt.ctx.vr[rd][k] = 0 ∧
        (∀ m ∈ [lt.ctx.vr[rd][k], eq.ctx.vr[rd][k], gt.ctx.vr[rd][k]], m = 0xFFFF ∨ m = 0x0000)

/-- Lanes are independent (R131): lane `k` of an elementwise result depends only on lane `k` of the operands. -/
def Obligations.LanesAreIndependent : Prop :=
  ∀ (rd rs : VReg) (k : Lane) (s t : State),
    FullVr s.ctx rd → FullVr s.ctx rs → FullVr t.ctx rd → FullVr t.ctx rs →
    s.ctx.vr[rd][k] = t.ctx.vr[rd][k] → s.ctx.vr[rs][k] = t.ctx.vr[rs][k] →
    ∀ i ∈ elementwise rd rs, ∃ s' t', exec i s = .next s' ∧ exec i t = .next t' ∧
      s'.ctx.vr[rd][k] = t'.ctx.vr[rd][k]

/-- The frame of the elementwise commands (R133): no register but `rd`, no accumulator slice and no flag is written,
and no port driven but FAULT; this holds when they fault too. -/
def Obligations.ElementwiseFrame : Prop :=
  ∀ (rd rs : VReg) (s : State), ∀ i ∈ elementwise rd rs, ∃ t, exec i s = .next t ∧
    (∀ r, r ≠ rd → t.ctx.vr[r] = s.ctx.vr[r] ∧ t.ctx.wvr[r] = s.ctx.wvr[r]) ∧ SameAccAndFlags t.ctx s.ctx ∧
    t.cfg = s.cfg ∧ t.refused = s.refused ∧ t.din = s.din ∧ t.pending = s.pending ∧
    t.dout.v = none ∧ t.dout.p = none ∧ t.dout.a = none ∧ t.dout.acc = none ∧ t.dout.diag = none

/-- The pseudo-instructions (R85, which the spec derives from R126 to R130): the result is in `vd`, `vt` is all-ones afterwards, nothing else of the context is
written; with `vt = vd` there is no expansion, and the sequence would end with `vd` all-zero. -/
def Obligations.PseudoInstructionsCompute : Prop :=
  (∀ (p : Pseudo) (rel : Int → Int → Bool) (vd vs vt : VReg) (s : State),
    (p, rel) ∈ [(Pseudo.vcmpge vd vs vt, fun a b : Int => decide (a ≥ b)), (.vcmple vd vs vt, fun a b => decide (a ≤ b)),
      (.vcmpne vd vs vt, fun a b => decide (a ≠ b))] →
    vt ≠ vd → FullVr s.ctx vd → FullVr s.ctx vs →
    ∃ is t, expandPseudo p = some is ∧ execAll is s = .next t ∧
      (∀ k : Lane, t.ctx.vr[vd][k] = if rel s.ctx.vr[vd][k].toInt s.ctx.vr[vs][k].toInt then 0xFFFF else 0x0000) ∧
      t.ctx.vr[vt] = Vector.replicate 8 0xFFFF ∧ (∀ r, r ≠ vd → r ≠ vt → t.ctx.vr[r] = s.ctx.vr[r]) ∧
      SameAccAndFlags t.ctx s.ctx ∧ t.fault = s.fault) ∧
  (∀ (vd vt : VReg) (s : State), vt ≠ vd → FullVr s.ctx vd →
    ∃ is t, expandPseudo (.vnot vd vt) = some is ∧ execAll is s = .next t ∧
      (∀ k : Lane, t.ctx.vr[vd][k] = ~~~ s.ctx.vr[vd][k]) ∧ t.ctx.vr[vt] = Vector.replicate 8 0xFFFF ∧
      (∀ r, r ≠ vd → r ≠ vt → t.ctx.vr[r] = s.ctx.vr[r]) ∧ SameAccAndFlags t.ctx s.ctx ∧ t.fault = s.fault) ∧
  (∀ (vd vs : VReg) (s : State), FullVr s.ctx vs →
    ∃ is, expandPseudo (.vmov vd vs) = some is ∧ execAll is s = .next (wroteVr s vd s.ctx.vr[vs])) ∧
  (∀ (vd : VReg) (s : State),
    ∃ is, expandPseudo (.vclr vd) = some is ∧ execAll is s = .next (wroteVr s vd (Vector.replicate 8 0x0000))) ∧
  (∀ (vd vs : VReg) (s : State), FullVr s.ctx vd → FullVr s.ctx vs →
    expandPseudo (.vcmpge vd vs vd) = none ∧ expandPseudo (.vcmple vd vs vd) = none ∧
    expandPseudo (.vcmpne vd vs vd) = none ∧ expandPseudo (.vnot vd vd) = none ∧
    ∀ i ∈ [Instr.vcmplt vd vs, .vcmpgt vd vs, .vcmpeq vd vs], ∃ t, execAll [i, .vfill vd, .vxor vd vd] s = .next t ∧
      t.ctx.vr[vd] = Vector.replicate 8 0x0000)

/-! ## Shuffle -/

/-- VSHUF (R140): lane `i` of the result is source lane `ELEMENT_TABLE[e][i]`; only selected lanes are read, and the
first unwritten one in the order of the result lanes is reported. Codes 0 and 1 make it VCOPY. -/
def Obligations.VshufRule : Prop :=
  ∀ (rd rs : VReg) (e : ElementCode) (s : State),
    decodeCommand (cmdWord 0x10 rd rs e 0) = .ok (.vshuf rd rs e) ∧
    ((∀ i : Lane, s.ctx.wvr[rs][(elementRow s.cfg.elementRows e)[i]] = true) →
      ∃ v : Vec, (∀ i : Lane, v[i] = s.ctx.vr[rs][(elementRow s.cfg.elementRows e)[i]]) ∧
        exec (.vshuf rd rs e) s = .next (wroteVr s rd v)) ∧
    (∀ j : Lane, s.ctx.wvr[rs][(elementRow s.cfg.elementRows e)[j]] = false →
      (∀ i : Lane, i < j → s.ctx.wvr[rs][(elementRow s.cfg.elementRows e)[i]] = true) →
      exec (.vshuf rd rs e) s = .next (s.raise (.readBeforeWrite (.vr rs (elementRow s.cfg.elementRows e)[j])))) ∧
    (e.val < 2 → exec (.vshuf rd rs e) s = exec (.vcopy rd rs) s)

/-- Codes 0 and 1 are the identity, whatever the table (R141, R144). -/
def Obligations.ShuffleIdentity : Prop :=
  ∀ (rows : ElementRows) (v : Vec), (∀ i : Lane, (elementRow rows 0)[i] = i ∧ (elementRow rows 1)[i] = i) ∧
    shuffle rows v 0 = v ∧ shuffle rows v 1 = v

/-- Every code of the default table is idempotent (R146, which the spec derives from R141 and R142). Rows 2 to 15 are
the spec's default, which it takes from general knowledge (log 8). -/
def Obligations.DefaultShuffleIdempotent : Prop :=
  ∀ (v : Vec) (e : ElementCode),
    shuffle Config.defaultElementRows (shuffle Config.defaultElementRows v e) e = shuffle Config.defaultElementRows v e

/-! ## Flags -/

/-- GETVCO, GETVCC, GETVCE (R150, R151, R152); the high byte of VCE reads as zero. -/
def Obligations.PackedReadRule : Prop :=
  ∀ s : State,
    decodeCommand 0x20000000 = .ok .getvco ∧ decodeCommand 0x21000000 = .ok .getvcc ∧
    decodeCommand 0x22000000 = .ok .getvce ∧
    ((∀ k : Fin 16, s.ctx.wvco[k] = true) → exec .getvco s = .next (drove s { p := some s.ctx.vco })) ∧
    (∀ k, LowestClear s.ctx.wvco k → exec .getvco s = .next (s.raise (.readBeforeWrite (.vco k)))) ∧
    ((∀ k : Fin 16, s.ctx.wvcc[k] = true) → exec .getvcc s = .next (drove s { p := some s.ctx.vcc })) ∧
    (∀ k, LowestClear s.ctx.wvcc k → exec .getvcc s = .next (s.raise (.readBeforeWrite (.vcc k)))) ∧
    ((∀ k : Fin 8, s.ctx.wvce[k] = true) → exec .getvce s = .next (drove s { p := some (0#8 ++ s.ctx.vce) })) ∧
    (∀ k, LowestClear s.ctx.wvce k → exec .getvce s = .next (s.raise (.readBeforeWrite (.vce k))))

/-- SETVCO, SETVCC, SETVCE (R153, R154, R155): one register and its marks, nothing else; bits 15:8 of the value for VCE
are ignored. -/
def Obligations.PackedWriteRule : Prop :=
  ∀ s : State,
    decodeCommand 0x24000000 = .ok .setvco ∧ decodeCommand 0x25000000 = .ok .setvcc ∧
    decodeCommand 0x26000000 = .ok .setvce ∧
    exec .setvco s = .next
      { s with ctx := { s.ctx with vco := s.din.p, wvco := Vector.replicate 16 true }, dout := {} } ∧
    exec .setvcc s = .next
      { s with ctx := { s.ctx with vcc := s.din.p, wvcc := Vector.replicate 16 true }, dout := {} } ∧
    exec .setvce s = .next
      { s with ctx := { s.ctx with vce := s.din.p.extractLsb' 0 8, wvce := Vector.replicate 8 true }, dout := {} }

/-- The packed round trip (R156). -/
def Obligations.PackedRoundTrip : Prop :=
  ∀ s : State,
    (∃ t, exec .setvco s = .next t ∧ exec .getvco t = .next (drove t { p := some s.din.p })) ∧
    (∃ t, exec .setvcc s = .next t ∧ exec .getvcc t = .next (drove t { p := some s.din.p })) ∧
    (∃ t, exec .setvce s = .next t ∧ exec .getvce t = .next (drove t { p := some (s.din.p &&& 0x00FF) }))

/-- XRD.CO, NE, LT, GE, CE (R157 to R161): the eight bits of the field, each all-ones or all-zero; only the marks of
that field matter. `g` is the field's bit for each lane. -/
def Obligations.ExpandedReadRule : Prop :=
  ∀ (rd : VReg) (s : State) (i : Instr) (op : BitVec 8) (bit : Lane → Bool) (mark : Lane → Bool) (el : Lane → Element),
    (i, op, bit, mark, el) ∈
      [(Instr.xrdCo rd, (0x30 : BitVec 8), fun k : Lane => s.ctx.vco.getLsbD k.val, fun k : Lane => s.ctx.wvco[k.val],
          fun k : Lane => Element.vco ⟨k.val, by omega⟩),
       (.xrdNe rd, 0x31, fun k => s.ctx.vco.getLsbD (8 + k.val), fun k => s.ctx.wvco[8 + k.val],
          fun k => .vco ⟨8 + k.val, by omega⟩),
       (.xrdLt rd, 0x32, fun k => s.ctx.vcc.getLsbD k.val, fun k => s.ctx.wvcc[k.val],
          fun k => .vcc ⟨k.val, by omega⟩),
       (.xrdGe rd, 0x33, fun k => s.ctx.vcc.getLsbD (8 + k.val), fun k => s.ctx.wvcc[8 + k.val],
          fun k => .vcc ⟨8 + k.val, by omega⟩),
       (.xrdCe rd, 0x34, fun k => s.ctx.vce.getLsbD k.val, fun k => s.ctx.wvce[k.val], fun k => .vce k)] →
    decodeCommand (cmdWord op rd 0 0 0) = .ok i ∧
    ((∀ k, mark k = true) →
      ∃ v : Vec, (∀ k : Lane, v[k] = if bit k then 0xFFFF else 0x0000) ∧ exec i s = .next (wroteVr s rd v)) ∧
    (∀ k, mark k = false → (∀ l : Lane, l < k → mark l = true) →
      exec i s = .next (s.raise (.readBeforeWrite (el k))))

/-- XWR.CO, NE, LT, GE, CE (R162 to R166, R169): a canonical mask sets the eight bits and marks of one field and
nothing else; an unwritten lane is reported before a lane that is neither all-ones nor all-zero. -/
def Obligations.ExpandedWriteRule : Prop :=
  ∀ (rs : VReg) (s : State),
    (decodeCommand (cmdWord 0x38 0 rs 0 0) = .ok (.xwrCo rs) ∧ decodeCommand (cmdWord 0x39 0 rs 0 0) = .ok (.xwrNe rs) ∧
      decodeCommand (cmdWord 0x3A 0 rs 0 0) = .ok (.xwrLt rs) ∧ decodeCommand (cmdWord 0x3B 0 rs 0 0) = .ok (.xwrGe rs) ∧
      decodeCommand (cmdWord 0x3C 0 rs 0 0) = .ok (.xwrCe rs)) ∧
    (FullVr s.ctx rs → Canonical s.ctx.vr[rs] →
      (∃ t, exec (.xwrCo rs) s = .next t ∧
        t = { s with ctx := { s.ctx with vco := t.ctx.vco, wvco := t.ctx.wvco }, dout := {} } ∧
        LowByteSet s.ctx.vr[rs] s.ctx.vco t.ctx.vco s.ctx.wvco t.ctx.wvco) ∧
      (∃ t, exec (.xwrNe rs) s = .next t ∧
        t = { s with ctx := { s.ctx with vco := t.ctx.vco, wvco := t.ctx.wvco }, dout := {} } ∧
        HighByteSet s.ctx.vr[rs] s.ctx.vco t.ctx.vco s.ctx.wvco t.ctx.wvco) ∧
      (∃ t, exec (.xwrLt rs) s = .next t ∧
        t = { s with ctx := { s.ctx with vcc := t.ctx.vcc, wvcc := t.ctx.wvcc }, dout := {} } ∧
        LowByteSet s.ctx.vr[rs] s.ctx.vcc t.ctx.vcc s.ctx.wvcc t.ctx.wvcc) ∧
      (∃ t, exec (.xwrGe rs) s = .next t ∧
        t = { s with ctx := { s.ctx with vcc := t.ctx.vcc, wvcc := t.ctx.wvcc }, dout := {} } ∧
        HighByteSet s.ctx.vr[rs] s.ctx.vcc t.ctx.vcc s.ctx.wvcc t.ctx.wvcc) ∧
      (∃ t, exec (.xwrCe rs) s = .next t ∧
        t = { s with ctx := { s.ctx with vce := t.ctx.vce, wvce := Vector.replicate 8 true }, dout := {} } ∧
        ∀ k : Lane, t.ctx.vce.getLsbD k = decide (s.ctx.vr[rs][k] = 0xFFFF))) ∧
    (∀ i ∈ [Instr.xwrCo rs, .xwrNe rs, .xwrLt rs, .xwrGe rs, .xwrCe rs],
      (∀ j, LowestVr s.ctx rs j → exec i s = .next (s.raise (.readBeforeWrite (.vr rs j)))) ∧
      (∀ j : Lane, FullVr s.ctx rs → s.ctx.vr[rs][j] ≠ 0xFFFF → s.ctx.vr[rs][j] ≠ 0x0000 →
        (∀ k : Lane, k < j → s.ctx.vr[rs][k] = 0xFFFF ∨ s.ctx.vr[rs][k] = 0x0000) →
        exec i s = .next (s.raise (.nonCanonicalFlagLane rs j))))

/-- The expanded round trips (R167, which the spec derives from R153 to R166): XWR then XRD of a field gives a canonical mask back, whatever the destination; and
SET, then XRD of each field, XWR of each field, and GET give the packed value back. -/
def Obligations.ExpandedRoundTrip : Prop :=
  (∀ (vs vd : VReg) (s : State), FullVr s.ctx vs → Canonical s.ctx.vr[vs] →
    ∀ p ∈ [(Instr.xwrCo vs, Instr.xrdCo vd), (.xwrNe vs, .xrdNe vd), (.xwrLt vs, .xrdLt vd), (.xwrGe vs, .xrdGe vd),
      (.xwrCe vs, .xrdCe vd)],
    ∃ t, execAll [p.1, p.2] s = .next t ∧ t.ctx.vr[vd] = s.ctx.vr[vs] ∧ t.fault = s.fault) ∧
  (∀ (a b : VReg) (s : State), a ≠ b →
    (∃ t, execAll [.setvco, .xrdCo a, .xrdNe b, .xwrCo a, .xwrNe b, .getvco] s = .next t ∧
      t.dout = { p := some s.din.p } ∧ t.fault = s.fault) ∧
    (∃ t, execAll [.setvcc, .xrdLt a, .xrdGe b, .xwrLt a, .xwrGe b, .getvcc] s = .next t ∧
      t.dout = { p := some s.din.p } ∧ t.fault = s.fault) ∧
    (∃ t, execAll [.setvce, .xrdCe a, .xwrCe a, .getvce] s = .next t ∧
      t.dout = { p := some (s.din.p &&& 0x00FF) } ∧ t.fault = s.fault))

/-- Only SET*, XWR.*, DISPATCH through its handler, and RESET write a flag register (R168). -/
def Obligations.FlagWriters : Prop :=
  ∀ (i : Instr) (s t : State), exec i s = .next t →
    i ≠ .setvco → i ≠ .setvcc → i ≠ .setvce → (∀ rs, i ≠ .xwrCo rs ∧ i ≠ .xwrNe rs ∧ i ≠ .xwrLt rs ∧ i ≠ .xwrGe rs ∧
      i ≠ .xwrCe rs) → i ≠ .reset → i ≠ .dispatch → isSlot i = false →
    SameFlags t.ctx s.ctx

/-! ## Dispatch -/

/-- DISPATCH (R180): no handler, a handler that faults, and a handler that answers. -/
def Obligations.DispatchRule : Prop :=
  decodeCommand 0x50000000 = .ok .dispatch ∧
  ∀ s : State,
    (handlerAt s.cfg (slotOfWord s.din.i) = none →
      exec .dispatch s = .next (s.raise (.unimplementedOpcode (slotOfWord s.din.i) s.din.i))) ∧
    (∀ h, handlerAt s.cfg (slotOfWord s.din.i) = some h →
      (∀ reason, h (handlerIn s.cfg s.din.i s.ctx) = .fault reason →
        exec .dispatch s = .next (s.raise (.handlerFault (slotOfWord s.din.i) reason))) ∧
      (∀ out, h (handlerIn s.cfg s.din.i s.ctx) = .ok out →
        ∃ t, exec .dispatch s = .next t ∧ WroteBack s t (operandsOfWord s.din.i).vd out))

/-- The 64 slots (R180, R181), IW.VMULF to IW.VNULL in the order of `Instr.slotTable`: for every slot `k` and every
operand, the slot's instruction runs `HANDLERS[k]` on the snapshot and writes its answer back, or reports the empty
slot or the handler's fault. -/
def Obligations.SlotInstructionRule : Prop :=
  ∀ (k : SlotIndex) (f : IwOperands) (s : State),
    (handlerAt s.cfg k = none →
      exec (Instr.ofSlot k f) s = .next (s.raise (.unimplementedOpcode k (iwWord k f)))) ∧
    (∀ h, handlerAt s.cfg k = some h →
      (∀ reason, h (handlerIn s.cfg (iwWord k f) s.ctx) = .fault reason →
        exec (Instr.ofSlot k f) s = .next (s.raise (.handlerFault k reason))) ∧
      (∀ out, h (handlerIn s.cfg (iwWord k f) s.ctx) = .ok out →
        ∃ t, exec (Instr.ofSlot k f) s = .next t ∧ WroteBack s t f.vd out))

/-- DISPATCH does exactly what the instruction its word decodes to does (R80, R180). -/
def Obligations.DispatchRunsItsSlotInstruction : Prop :=
  ∀ s : State, exec .dispatch s = exec (decodeSlotWord s.din.i) s

/-- What a handler is given (R182, R186, R187): the whole word; `VR[vd]` and `VR[vs]` as they are; `VR[vt]` shuffled
once; accumulator and flags; `none` wherever the mark is clear. -/
def Obligations.HandlerInputRule : Prop :=
  ∀ (cfg : Config) (iw : Word32) (c : Context),
    (handlerIn cfg iw c).iw = iw ∧
    (∀ i : Lane,
      (handlerIn cfg iw c).dest[i] =
        (if c.wvr[(operandsOfWord iw).vd][i] then some c.vr[(operandsOfWord iw).vd][i] else none) ∧
      (handlerIn cfg iw c).raw[i] =
        (if c.wvr[(operandsOfWord iw).vs][i] then some c.vr[(operandsOfWord iw).vs][i] else none) ∧
      (∀ j : Lane, j = (elementRow cfg.elementRows (operandsOfWord iw).e)[i] →
        (handlerIn cfg iw c).shuffled[i] =
          (if c.wvr[(operandsOfWord iw).vt][j] then some c.vr[(operandsOfWord iw).vt][j] else none)) ∧
      (handlerIn cfg iw c).acc[i] = (if c.wacc[i] then some (c.accH[i] ++ c.accM[i] ++ c.accL[i]) else none) ∧
      (handlerIn cfg iw c).vce[i] = (if c.wvce[i] then some (c.vce.getLsbD i) else none)) ∧
    (∀ k : Fin 16,
      (handlerIn cfg iw c).vco[k] = (if c.wvco[k] then some (c.vco.getLsbD k) else none) ∧
      (handlerIn cfg iw c).vcc[k] = (if c.wvcc[k] then some (c.vcc.getLsbD k) else none))

/-- Bits 31:25 of an instruction word change neither the slot, nor the operands, nor anything a handler is given but
the word itself (R78). -/
def Obligations.HighBitsNotExamined : Prop :=
  ∀ (cfg : Config) (x y : Word32) (c : Context), x.extractLsb' 0 25 = y.extractLsb' 0 25 →
    slotOfWord x = slotOfWord y ∧
    { operandsOfWord x with major := 0 } = { operandsOfWord y with major := 0 } ∧
    { handlerIn cfg x c with iw := 0 } = { handlerIn cfg y c with iw := 0 }

/-- R183 item 2 put to use: under a handler whose answers depend on written elements only, giving values to unwritten
elements does not change what a DISPATCH that did not fault writes. -/
def Obligations.DispatchIgnoresUnwritten : Prop :=
  ∀ (s u : State) (h : Handler) (out : HandlerOut),
    handlerAt s.cfg (slotOfWord s.din.i) = some h → Handler.ReadsOnlyWritten h →
    u.cfg = s.cfg → u.din = s.din →
    HandlerIn.Fills (handlerIn s.cfg s.din.i s.ctx) (handlerIn u.cfg u.din.i u.ctx) →
    h (handlerIn s.cfg s.din.i s.ctx) = .ok out →
    ∃ s' u', exec .dispatch s = .next s' ∧ exec .dispatch u = .next u' ∧
      WroteBack s s' (operandsOfWord s.din.i).vd out ∧ WroteBack u u' (operandsOfWord s.din.i).vd out

/-! ## The state image -/

/-- The image (R53): it exists exactly when every element is written, and otherwise taking it faults
`ReadBeforeWrite`; it holds each value, high byte first, at its offset. -/
def Obligations.ImageLayout : Prop :=
  ∀ c : Context,
    ((∃ img, c.takeImage = .ok img) ↔ c.AllWritten) ∧
    (¬ c.AllWritten → ∃ el, c.written el = false ∧ c.takeImage = .error (.readBeforeWrite el)) ∧
    ∀ img : Image, c.takeImage = .ok img →
      (∀ (r : VReg) (i : Lane),
        img[16 * r.val + 2 * i.val] ++ img[16 * r.val + 2 * i.val + 1] = c.vr[r][i]) ∧
      (∀ i : Lane, img[512 + 2 * i.val] ++ img[512 + 2 * i.val + 1] = c.accH[i] ∧
        img[528 + 2 * i.val] ++ img[528 + 2 * i.val + 1] = c.accM[i] ∧
        img[544 + 2 * i.val] ++ img[544 + 2 * i.val + 1] = c.accL[i]) ∧
      img[560] ++ img[561] = c.vco ∧ img[562] ++ img[563] = c.vcc ∧ img[564] = c.vce

/-- The round-trip law (R54, which the spec derives from R101, R103 and R156): the commands that restore an image,
issued in any order from any state, leave a context whose image is the original, with no fault and no refusal. The
commands are the host's list, which is the model's own (log 3); zero on what they do not read of the input ports is its
choice (log 20). That saving by commands then gives this image is
`SaveImageRule`. -/
def Obligations.ImageRestoresInAnyOrder : Prop :=
  ∀ (img : Image) (s : State), s.pending.Perm (restoreCommands img) →
    ∃ t, s.runToEnd = .next t ∧ t.ctx.takeImage = .ok img ∧ t.fault = s.fault ∧ t.refused = s.refused

/-- Saving an image by VREAD, ACCRD and GET* (R53). With every element written the ports give the 565 bytes of the
image, and only the output ports have changed; otherwise the save ends at the read that faults, with its
`ReadBeforeWrite` on record and on the `FAULT` port. That the reads are issued in image order, that the save ends at the
first fault (log 19) and that the host's command goes in front of its list (log 3) are the model's choices. -/
def Obligations.SaveImageRule : Prop :=
  ∀ s : State,
    (∀ img, s.ctx.takeImage = .ok img →
      s.saveImage = .next (drove s { p := some (0#8 ++ s.ctx.vce) }, some img)) ∧
    (∀ f, s.ctx.takeImage = .error f → s.saveImage = .next (s.raise f, none))
end

