-- ==== Sys2Proof/Laws/State.lean ====
section
/-! SUPPORT. One lemma for each field after each update of the context and of the state. -/
namespace Sys2Proof.Machine

@[simp] theorem writeVr_vr (c : Context) (r : VReg) (v : Vec) :
    (c.writeVr r v).vr = c.vr.set r v := rfl
@[simp] theorem writeVr_accH (c : Context) (r : VReg) (v : Vec) :
    (c.writeVr r v).accH = c.accH := rfl
@[simp] theorem writeVr_accM (c : Context) (r : VReg) (v : Vec) :
    (c.writeVr r v).accM = c.accM := rfl
@[simp] theorem writeVr_accL (c : Context) (r : VReg) (v : Vec) :
    (c.writeVr r v).accL = c.accL := rfl
@[simp] theorem writeVr_vco (c : Context) (r : VReg) (v : Vec) :
    (c.writeVr r v).vco = c.vco := rfl
@[simp] theorem writeVr_vcc (c : Context) (r : VReg) (v : Vec) :
    (c.writeVr r v).vcc = c.vcc := rfl
@[simp] theorem writeVr_vce (c : Context) (r : VReg) (v : Vec) :
    (c.writeVr r v).vce = c.vce := rfl
@[simp] theorem writeVr_wvr (c : Context) (r : VReg) (v : Vec) :
    (c.writeVr r v).wvr = c.wvr.set r (Vector.replicate 8 true) := rfl
@[simp] theorem writeVr_wacc (c : Context) (r : VReg) (v : Vec) :
    (c.writeVr r v).wacc = c.wacc := rfl
@[simp] theorem writeVr_wvco (c : Context) (r : VReg) (v : Vec) :
    (c.writeVr r v).wvco = c.wvco := rfl
@[simp] theorem writeVr_wvcc (c : Context) (r : VReg) (v : Vec) :
    (c.writeVr r v).wvcc = c.wvcc := rfl
@[simp] theorem writeVr_wvce (c : Context) (r : VReg) (v : Vec) :
    (c.writeVr r v).wvce = c.wvce := rfl

@[simp] theorem writeAccLanes_vr (c : Context) (a : Vector (Option Word48) 8) :
    (c.writeAccLanes a).vr = c.vr := rfl
@[simp] theorem writeAccLanes_accH (c : Context) (a : Vector (Option Word48) 8) :
    (c.writeAccLanes a).accH = lanes fun i => (a[i].map sliceH).getD c.accH[i] := rfl
@[simp] theorem writeAccLanes_accM (c : Context) (a : Vector (Option Word48) 8) :
    (c.writeAccLanes a).accM = lanes fun i => (a[i].map sliceM).getD c.accM[i] := rfl
@[simp] theorem writeAccLanes_accL (c : Context) (a : Vector (Option Word48) 8) :
    (c.writeAccLanes a).accL = lanes fun i => (a[i].map sliceL).getD c.accL[i] := rfl
@[simp] theorem writeAccLanes_vco (c : Context) (a : Vector (Option Word48) 8) :
    (c.writeAccLanes a).vco = c.vco := rfl
@[simp] theorem writeAccLanes_vcc (c : Context) (a : Vector (Option Word48) 8) :
    (c.writeAccLanes a).vcc = c.vcc := rfl
@[simp] theorem writeAccLanes_vce (c : Context) (a : Vector (Option Word48) 8) :
    (c.writeAccLanes a).vce = c.vce := rfl
@[simp] theorem writeAccLanes_wvr (c : Context) (a : Vector (Option Word48) 8) :
    (c.writeAccLanes a).wvr = c.wvr := rfl
@[simp] theorem writeAccLanes_wacc (c : Context) (a : Vector (Option Word48) 8) :
    (c.writeAccLanes a).wacc = lanes fun i => a[i].isSome || c.wacc[i] := rfl
@[simp] theorem writeAccLanes_wvco (c : Context) (a : Vector (Option Word48) 8) :
    (c.writeAccLanes a).wvco = c.wvco := rfl
@[simp] theorem writeAccLanes_wvcc (c : Context) (a : Vector (Option Word48) 8) :
    (c.writeAccLanes a).wvcc = c.wvcc := rfl
@[simp] theorem writeAccLanes_wvce (c : Context) (a : Vector (Option Word48) 8) :
    (c.writeAccLanes a).wvce = c.wvce := rfl

@[simp] theorem writeVco_vr (c : Context) (v : Word16) :
    (c.writeVco v).vr = c.vr := rfl
@[simp] theorem writeVco_accH (c : Context) (v : Word16) :
    (c.writeVco v).accH = c.accH := rfl
@[simp] theorem writeVco_accM (c : Context) (v : Word16) :
    (c.writeVco v).accM = c.accM := rfl
@[simp] theorem writeVco_accL (c : Context) (v : Word16) :
    (c.writeVco v).accL = c.accL := rfl
@[simp] theorem writeVco_vco (c : Context) (v : Word16) :
    (c.writeVco v).vco = v := rfl
@[simp] theorem writeVco_vcc (c : Context) (v : Word16) :
    (c.writeVco v).vcc = c.vcc := rfl
@[simp] theorem writeVco_vce (c : Context) (v : Word16) :
    (c.writeVco v).vce = c.vce := rfl
@[simp] theorem writeVco_wvr (c : Context) (v : Word16) :
    (c.writeVco v).wvr = c.wvr := rfl
@[simp] theorem writeVco_wacc (c : Context) (v : Word16) :
    (c.writeVco v).wacc = c.wacc := rfl
@[simp] theorem writeVco_wvco (c : Context) (v : Word16) :
    (c.writeVco v).wvco = Vector.replicate 16 true := rfl
@[simp] theorem writeVco_wvcc (c : Context) (v : Word16) :
    (c.writeVco v).wvcc = c.wvcc := rfl
@[simp] theorem writeVco_wvce (c : Context) (v : Word16) :
    (c.writeVco v).wvce = c.wvce := rfl

@[simp] theorem writeVcc_vr (c : Context) (v : Word16) :
    (c.writeVcc v).vr = c.vr := rfl
@[simp] theorem writeVcc_accH (c : Context) (v : Word16) :
    (c.writeVcc v).accH = c.accH := rfl
@[simp] theorem writeVcc_accM (c : Context) (v : Word16) :
    (c.writeVcc v).accM = c.accM := rfl
@[simp] theorem writeVcc_accL (c : Context) (v : Word16) :
    (c.writeVcc v).accL = c.accL := rfl
@[simp] theorem writeVcc_vco (c : Context) (v : Word16) :
    (c.writeVcc v).vco = c.vco := rfl
@[simp] theorem writeVcc_vcc (c : Context) (v : Word16) :
    (c.writeVcc v).vcc = v := rfl
@[simp] theorem writeVcc_vce (c : Context) (v : Word16) :
    (c.writeVcc v).vce = c.vce := rfl
@[simp] theorem writeVcc_wvr (c : Context) (v : Word16) :
    (c.writeVcc v).wvr = c.wvr := rfl
@[simp] theorem writeVcc_wacc (c : Context) (v : Word16) :
    (c.writeVcc v).wacc = c.wacc := rfl
@[simp] theorem writeVcc_wvco (c : Context) (v : Word16) :
    (c.writeVcc v).wvco = c.wvco := rfl
@[simp] theorem writeVcc_wvcc (c : Context) (v : Word16) :
    (c.writeVcc v).wvcc = Vector.replicate 16 true := rfl
@[simp] theorem writeVcc_wvce (c : Context) (v : Word16) :
    (c.writeVcc v).wvce = c.wvce := rfl

@[simp] theorem writeVce_vr (c : Context) (v : BitVec 8) :
    (c.writeVce v).vr = c.vr := rfl
@[simp] theorem writeVce_accH (c : Context) (v : BitVec 8) :
    (c.writeVce v).accH = c.accH := rfl
@[simp] theorem writeVce_accM (c : Context) (v : BitVec 8) :
    (c.writeVce v).accM = c.accM := rfl
@[simp] theorem writeVce_accL (c : Context) (v : BitVec 8) :
    (c.writeVce v).accL = c.accL := rfl
@[simp] theorem writeVce_vco (c : Context) (v : BitVec 8) :
    (c.writeVce v).vco = c.vco := rfl
@[simp] theorem writeVce_vcc (c : Context) (v : BitVec 8) :
    (c.writeVce v).vcc = c.vcc := rfl
@[simp] theorem writeVce_vce (c : Context) (v : BitVec 8) :
    (c.writeVce v).vce = v := rfl
@[simp] theorem writeVce_wvr (c : Context) (v : BitVec 8) :
    (c.writeVce v).wvr = c.wvr := rfl
@[simp] theorem writeVce_wacc (c : Context) (v : BitVec 8) :
    (c.writeVce v).wacc = c.wacc := rfl
@[simp] theorem writeVce_wvco (c : Context) (v : BitVec 8) :
    (c.writeVce v).wvco = c.wvco := rfl
@[simp] theorem writeVce_wvcc (c : Context) (v : BitVec 8) :
    (c.writeVce v).wvcc = c.wvcc := rfl
@[simp] theorem writeVce_wvce (c : Context) (v : BitVec 8) :
    (c.writeVce v).wvce = Vector.replicate 8 true := rfl

@[simp] theorem writeFlagByte_co_vr (c : Context) (b : BitVec 8) :
    (c.writeFlagByte .co b).vr = c.vr := rfl
@[simp] theorem writeFlagByte_co_accH (c : Context) (b : BitVec 8) :
    (c.writeFlagByte .co b).accH = c.accH := rfl
@[simp] theorem writeFlagByte_co_accM (c : Context) (b : BitVec 8) :
    (c.writeFlagByte .co b).accM = c.accM := rfl
@[simp] theorem writeFlagByte_co_accL (c : Context) (b : BitVec 8) :
    (c.writeFlagByte .co b).accL = c.accL := rfl
@[simp] theorem writeFlagByte_co_vco (c : Context) (b : BitVec 8) :
    (c.writeFlagByte .co b).vco = c.vco.extractLsb' 8 8 ++ b := rfl
@[simp] theorem writeFlagByte_co_vcc (c : Context) (b : BitVec 8) :
    (c.writeFlagByte .co b).vcc = c.vcc := rfl
@[simp] theorem writeFlagByte_co_vce (c : Context) (b : BitVec 8) :
    (c.writeFlagByte .co b).vce = c.vce := rfl
@[simp] theorem writeFlagByte_co_wvr (c : Context) (b : BitVec 8) :
    (c.writeFlagByte .co b).wvr = c.wvr := rfl
@[simp] theorem writeFlagByte_co_wacc (c : Context) (b : BitVec 8) :
    (c.writeFlagByte .co b).wacc = c.wacc := rfl
@[simp] theorem writeFlagByte_co_wvco (c : Context) (b : BitVec 8) :
    (c.writeFlagByte .co b).wvco = markLow c.wvco := rfl
@[simp] theorem writeFlagByte_co_wvcc (c : Context) (b : BitVec 8) :
    (c.writeFlagByte .co b).wvcc = c.wvcc := rfl
@[simp] theorem writeFlagByte_co_wvce (c : Context) (b : BitVec 8) :
    (c.writeFlagByte .co b).wvce = c.wvce := rfl

@[simp] theorem writeFlagByte_ne_vr (c : Context) (b : BitVec 8) :
    (c.writeFlagByte .ne b).vr = c.vr := rfl
@[simp] theorem writeFlagByte_ne_accH (c : Context) (b : BitVec 8) :
    (c.writeFlagByte .ne b).accH = c.accH := rfl
@[simp] theorem writeFlagByte_ne_accM (c : Context) (b : BitVec 8) :
    (c.writeFlagByte .ne b).accM = c.accM := rfl
@[simp] theorem writeFlagByte_ne_accL (c : Context) (b : BitVec 8) :
    (c.writeFlagByte .ne b).accL = c.accL := rfl
@[simp] theorem writeFlagByte_ne_vco (c : Context) (b : BitVec 8) :
    (c.writeFlagByte .ne b).vco = b ++ c.vco.extractLsb' 0 8 := rfl
@[simp] theorem writeFlagByte_ne_vcc (c : Context) (b : BitVec 8) :
    (c.writeFlagByte .ne b).vcc = c.vcc := rfl
@[simp] theorem writeFlagByte_ne_vce (c : Context) (b : BitVec 8) :
    (c.writeFlagByte .ne b).vce = c.vce := rfl
@[simp] theorem writeFlagByte_ne_wvr (c : Context) (b : BitVec 8) :
    (c.writeFlagByte .ne b).wvr = c.wvr := rfl
@[simp] theorem writeFlagByte_ne_wacc (c : Context) (b : BitVec 8) :
    (c.writeFlagByte .ne b).wacc = c.wacc := rfl
@[simp] theorem writeFlagByte_ne_wvco (c : Context) (b : BitVec 8) :
    (c.writeFlagByte .ne b).wvco = markHigh c.wvco := rfl
@[simp] theorem writeFlagByte_ne_wvcc (c : Context) (b : BitVec 8) :
    (c.writeFlagByte .ne b).wvcc = c.wvcc := rfl
@[simp] theorem writeFlagByte_ne_wvce (c : Context) (b : BitVec 8) :
    (c.writeFlagByte .ne b).wvce = c.wvce := rfl

@[simp] theorem writeFlagByte_lt_vr (c : Context) (b : BitVec 8) :
    (c.writeFlagByte .lt b).vr = c.vr := rfl
@[simp] theorem writeFlagByte_lt_accH (c : Context) (b : BitVec 8) :
    (c.writeFlagByte .lt b).accH = c.accH := rfl
@[simp] theorem writeFlagByte_lt_accM (c : Context) (b : BitVec 8) :
    (c.writeFlagByte .lt b).accM = c.accM := rfl
@[simp] theorem writeFlagByte_lt_accL (c : Context) (b : BitVec 8) :
    (c.writeFlagByte .lt b).accL = c.accL := rfl
@[simp] theorem writeFlagByte_lt_vco (c : Context) (b : BitVec 8) :
    (c.writeFlagByte .lt b).vco = c.vco := rfl
@[simp] theorem writeFlagByte_lt_vcc (c : Context) (b : BitVec 8) :
    (c.writeFlagByte .lt b).vcc = c.vcc.extractLsb' 8 8 ++ b := rfl
@[simp] theorem writeFlagByte_lt_vce (c : Context) (b : BitVec 8) :
    (c.writeFlagByte .lt b).vce = c.vce := rfl
@[simp] theorem writeFlagByte_lt_wvr (c : Context) (b : BitVec 8) :
    (c.writeFlagByte .lt b).wvr = c.wvr := rfl
@[simp] theorem writeFlagByte_lt_wacc (c : Context) (b : BitVec 8) :
    (c.writeFlagByte .lt b).wacc = c.wacc := rfl
@[simp] theorem writeFlagByte_lt_wvco (c : Context) (b : BitVec 8) :
    (c.writeFlagByte .lt b).wvco = c.wvco := rfl
@[simp] theorem writeFlagByte_lt_wvcc (c : Context) (b : BitVec 8) :
    (c.writeFlagByte .lt b).wvcc = markLow c.wvcc := rfl
@[simp] theorem writeFlagByte_lt_wvce (c : Context) (b : BitVec 8) :
    (c.writeFlagByte .lt b).wvce = c.wvce := rfl

@[simp] theorem writeFlagByte_ge_vr (c : Context) (b : BitVec 8) :
    (c.writeFlagByte .ge b).vr = c.vr := rfl
@[simp] theorem writeFlagByte_ge_accH (c : Context) (b : BitVec 8) :
    (c.writeFlagByte .ge b).accH = c.accH := rfl
@[simp] theorem writeFlagByte_ge_accM (c : Context) (b : BitVec 8) :
    (c.writeFlagByte .ge b).accM = c.accM := rfl
@[simp] theorem writeFlagByte_ge_accL (c : Context) (b : BitVec 8) :
    (c.writeFlagByte .ge b).accL = c.accL := rfl
@[simp] theorem writeFlagByte_ge_vco (c : Context) (b : BitVec 8) :
    (c.writeFlagByte .ge b).vco = c.vco := rfl
@[simp] theorem writeFlagByte_ge_vcc (c : Context) (b : BitVec 8) :
    (c.writeFlagByte .ge b).vcc = b ++ c.vcc.extractLsb' 0 8 := rfl
@[simp] theorem writeFlagByte_ge_vce (c : Context) (b : BitVec 8) :
    (c.writeFlagByte .ge b).vce = c.vce := rfl
@[simp] theorem writeFlagByte_ge_wvr (c : Context) (b : BitVec 8) :
    (c.writeFlagByte .ge b).wvr = c.wvr := rfl
@[simp] theorem writeFlagByte_ge_wacc (c : Context) (b : BitVec 8) :
    (c.writeFlagByte .ge b).wacc = c.wacc := rfl
@[simp] theorem writeFlagByte_ge_wvco (c : Context) (b : BitVec 8) :
    (c.writeFlagByte .ge b).wvco = c.wvco := rfl
@[simp] theorem writeFlagByte_ge_wvcc (c : Context) (b : BitVec 8) :
    (c.writeFlagByte .ge b).wvcc = markHigh c.wvcc := rfl
@[simp] theorem writeFlagByte_ge_wvce (c : Context) (b : BitVec 8) :
    (c.writeFlagByte .ge b).wvce = c.wvce := rfl

@[simp] theorem writeFlagByte_ce_vr (c : Context) (b : BitVec 8) :
    (c.writeFlagByte .ce b).vr = c.vr := rfl
@[simp] theorem writeFlagByte_ce_accH (c : Context) (b : BitVec 8) :
    (c.writeFlagByte .ce b).accH = c.accH := rfl
@[simp] theorem writeFlagByte_ce_accM (c : Context) (b : BitVec 8) :
    (c.writeFlagByte .ce b).accM = c.accM := rfl
@[simp] theorem writeFlagByte_ce_accL (c : Context) (b : BitVec 8) :
    (c.writeFlagByte .ce b).accL = c.accL := rfl
@[simp] theorem writeFlagByte_ce_vco (c : Context) (b : BitVec 8) :
    (c.writeFlagByte .ce b).vco = c.vco := rfl
@[simp] theorem writeFlagByte_ce_vcc (c : Context) (b : BitVec 8) :
    (c.writeFlagByte .ce b).vcc = c.vcc := rfl
@[simp] theorem writeFlagByte_ce_vce (c : Context) (b : BitVec 8) :
    (c.writeFlagByte .ce b).vce = b := rfl
@[simp] theorem writeFlagByte_ce_wvr (c : Context) (b : BitVec 8) :
    (c.writeFlagByte .ce b).wvr = c.wvr := rfl
@[simp] theorem writeFlagByte_ce_wacc (c : Context) (b : BitVec 8) :
    (c.writeFlagByte .ce b).wacc = c.wacc := rfl
@[simp] theorem writeFlagByte_ce_wvco (c : Context) (b : BitVec 8) :
    (c.writeFlagByte .ce b).wvco = c.wvco := rfl
@[simp] theorem writeFlagByte_ce_wvcc (c : Context) (b : BitVec 8) :
    (c.writeFlagByte .ce b).wvcc = c.wvcc := rfl
@[simp] theorem writeFlagByte_ce_wvce (c : Context) (b : BitVec 8) :
    (c.writeFlagByte .ce b).wvce = Vector.replicate 8 true := rfl

@[simp] theorem raise_cfg (s : State) (f : CommandFault) :
    (s.raise f).cfg = s.cfg := rfl
@[simp] theorem raise_ctx (s : State) (f : CommandFault) :
    (s.raise f).ctx = s.ctx := rfl
@[simp] theorem raise_fault (s : State) (f : CommandFault) :
    (s.raise f).fault = stickyReport s.fault f := rfl
@[simp] theorem raise_refused (s : State) (f : CommandFault) :
    (s.raise f).refused = s.refused := rfl
@[simp] theorem raise_din (s : State) (f : CommandFault) :
    (s.raise f).din = s.din := rfl
@[simp] theorem raise_dout (s : State) (f : CommandFault) :
    (s.raise f).dout = { diag := f.diag, report := some (.fault f) } := rfl
@[simp] theorem raise_pending (s : State) (f : CommandFault) :
    (s.raise f).pending = s.pending := rfl

@[simp] theorem refuse_cfg (s : State) (q : CommandRefusal) :
    (s.refuse q).cfg = s.cfg := rfl
@[simp] theorem refuse_ctx (s : State) (q : CommandRefusal) :
    (s.refuse q).ctx = s.ctx := rfl
@[simp] theorem refuse_fault (s : State) (q : CommandRefusal) :
    (s.refuse q).fault = s.fault := rfl
@[simp] theorem refuse_refused (s : State) (q : CommandRefusal) :
    (s.refuse q).refused = stickyReport s.refused q := rfl
@[simp] theorem refuse_din (s : State) (q : CommandRefusal) :
    (s.refuse q).din = s.din := rfl
@[simp] theorem refuse_dout (s : State) (q : CommandRefusal) :
    (s.refuse q).dout = { report := some (.refusal q) } := rfl
@[simp] theorem refuse_pending (s : State) (q : CommandRefusal) :
    (s.refuse q).pending = s.pending := rfl

@[simp] theorem accept_cfg (s : State) (r : Request) (rest : List Request) :
    (s.accept r rest).cfg = s.cfg := rfl
@[simp] theorem accept_ctx (s : State) (r : Request) (rest : List Request) :
    (s.accept r rest).ctx = s.ctx := rfl
@[simp] theorem accept_fault (s : State) (r : Request) (rest : List Request) :
    (s.accept r rest).fault = s.fault := rfl
@[simp] theorem accept_refused (s : State) (r : Request) (rest : List Request) :
    (s.accept r rest).refused = s.refused := rfl
@[simp] theorem accept_din (s : State) (r : Request) (rest : List Request) :
    (s.accept r rest).din = r.din := rfl
@[simp] theorem accept_dout (s : State) (r : Request) (rest : List Request) :
    (s.accept r rest).dout = s.dout := rfl
@[simp] theorem accept_pending (s : State) (r : Request) (rest : List Request) :
    (s.accept r rest).pending = rest := rfl

@[simp] theorem settle_ok_cfg (s : State) (eff : Effect) :
    (s.settle (.ok eff)).cfg = s.cfg := rfl
@[simp] theorem settle_ok_ctx (s : State) (eff : Effect) :
    (s.settle (.ok eff)).ctx = eff.ctx := rfl
@[simp] theorem settle_ok_fault (s : State) (eff : Effect) :
    (s.settle (.ok eff)).fault = s.fault := rfl
@[simp] theorem settle_ok_refused (s : State) (eff : Effect) :
    (s.settle (.ok eff)).refused = s.refused := rfl
@[simp] theorem settle_ok_din (s : State) (eff : Effect) :
    (s.settle (.ok eff)).din = s.din := rfl
@[simp] theorem settle_ok_dout (s : State) (eff : Effect) :
    (s.settle (.ok eff)).dout = eff.out := rfl
@[simp] theorem settle_ok_pending (s : State) (eff : Effect) :
    (s.settle (.ok eff)).pending = s.pending := rfl

@[simp] theorem settle_error (s : State) (f : CommandFault) : s.settle (.error f) = s.raise f := rfl

@[simp] theorem stickyReport_none {α : Type} (new : α) : stickyReport none new = some new := rfl

theorem stickyReport_isSome {α : Type} (old : Option α) (new : α) : (stickyReport old new).isSome = true := by
  cases old <;> rfl

end Sys2Proof.Machine
end

