-- ==== Sys2Proof/Laws/Lanes.lean ====
section
/-! SUPPORT. Lanes, port placement, accumulator slices, words and their fields, flag bytes and masks. -/
namespace Sys2Proof.Machine

@[simp] theorem lanes_getElem {α : Type} (f : Lane → α) (k : Nat) (h : k < 8) : (lanes f)[k] = f ⟨k, h⟩ := by
  have : k = 0 ∨ k = 1 ∨ k = 2 ∨ k = 3 ∨ k = 4 ∨ k = 5 ∨ k = 6 ∨ k = 7 := by omega
  rcases this with rfl | rfl | rfl | rfl | rfl | rfl | rfl | rfl <;> rfl

theorem vec_ext {α : Type} {n : Nat} {v w : Vector α n} (h : ∀ i : Fin n, v[i] = w[i]) : v = w :=
  Vector.ext fun k hk => h ⟨k, hk⟩

@[simp] theorem lanes_of_get {α : Type} (v : Vector α 8) : (lanes fun i => v[i]) = v :=
  vec_ext fun i => by simp

/-- Lane `i` of a packed vector is bits `127-16i : 112-16i` (R52). -/
theorem extract_vecBits (v : Vec) (i : Lane) : (vecBits v).extractLsb' (112 - 16 * i.val) 16 = v[i] := by
  unfold vecBits
  fin_cases i <;>
    simp (disch := omega) only [BitVec.extractLsb'_append_eq_of_le, BitVec.extractLsb'_append_eq_of_add_le] <;> simp

@[simp] theorem bitsVec_vecBits (v : Vec) : bitsVec (vecBits v) = v :=
  vec_ext fun i => by simpa [bitsVec] using extract_vecBits v i

@[simp] theorem vecBits_bitsVec (x : BitVec 128) : vecBits (bitsVec x) = x := by
  simp only [vecBits, bitsVec, lanes_getElem]
  ext j hj
  simp only [BitVec.getElem_append, BitVec.getElem_extractLsb']
  repeat' split
  all_goals (rw [BitVec.getElem_eq_testBit_toNat, BitVec.getLsbD]; congr 1; omega)

/-- The three vectors of the accumulator port (R75). -/
theorem accPort_extract (h m l : Vec) :
    (accPort h m l).extractLsb' 256 128 = vecBits h ∧ (accPort h m l).extractLsb' 128 128 = vecBits m ∧
      (accPort h m l).extractLsb' 0 128 = vecBits l := by
  unfold accPort
  simp (disch := omega) only [BitVec.extractLsb'_append_eq_of_le, BitVec.extractLsb'_append_eq_of_add_le]
  simp

theorem append_extract_acc (x : BitVec 384) :
    x.extractLsb' 256 128 ++ x.extractLsb' 128 128 ++ x.extractLsb' 0 128 = x := by
  apply BitVec.eq_of_getLsbD_eq
  intro j hj
  simp only [BitVec.getLsbD_append, BitVec.getLsbD_extractLsb']
  by_cases h1 : j < 128
  · simp [h1]
  · by_cases h2 : j - 128 < 128
    · have h3 : 128 + (j - 128) = j := by omega
      simp [h1, h2, h3]
    · have h3 : 256 + (j - 128 - 128) = j := by omega
      have h4 : j - 128 - 128 < 128 := by omega
      simp [h1, h2, h3, h4]

@[simp] theorem sliceH_accWord (h m l : Word16) : sliceH (accWord h m l) = h := by
  unfold sliceH accWord
  simp (disch := omega) only [BitVec.extractLsb'_append_eq_of_le]
  simp

@[simp] theorem sliceM_accWord (h m l : Word16) : sliceM (accWord h m l) = m := by
  unfold sliceM accWord
  simp (disch := omega) only [BitVec.extractLsb'_append_eq_of_le, BitVec.extractLsb'_append_eq_of_add_le]
  simp

@[simp] theorem sliceL_accWord (h m l : Word16) : sliceL (accWord h m l) = l := by
  unfold sliceL accWord
  simp (disch := omega) only [BitVec.extractLsb'_append_eq_of_add_le, BitVec.extractLsb'_eq_self]

@[simp] theorem accWord_slices (x : Word48) : accWord (sliceH x) (sliceM x) (sliceL x) = x := by
  unfold accWord sliceH sliceM sliceL
  ext j hj
  simp only [BitVec.getElem_append, BitVec.getElem_extractLsb']
  repeat' split
  all_goals (rw [BitVec.getElem_eq_testBit_toNat, BitVec.getLsbD]; congr 1; omega)

/-- Writing lane values and reading a lane back (R25, R26). -/
theorem accLane_writeAccLanes (c : Context) (a : Vector (Option Word48) 8) (i : Lane) :
    (c.writeAccLanes a).accLane i = (a[i]).getD (c.accLane i) := by
  simp only [Context.accLane, writeAccLanes_accH, writeAccLanes_accM, writeAccLanes_accL, Fin.getElem_fin, lanes_getElem]
  cases h : a[i.val] <;> simp

/-- The fields of a command word built from fields (R71). -/
theorem cmdFields_cmdWord (op : BitVec 8) (rd rs : VReg) (e : ElementCode) (lane : Lane) :
    cmdFields (cmdWord op rd rs e lane) = { op := op, rd := rd, rs := rs, e := e, lane := lane, z := 0 } := by
  unfold cmdFields cmdWord
  simp (disch := omega) only [BitVec.extractLsb'_append_eq_of_le, BitVec.extractLsb'_append_eq_of_add_le]
  simp

/-- The fields of an instruction word built from fields, and the slot (R77). -/
@[simp] theorem operandsOfWord_iwWord (k : SlotIndex) (f : IwOperands) : operandsOfWord (iwWord k f) = f := by
  unfold operandsOfWord iwWord
  simp (disch := omega) only [BitVec.extractLsb'_append_eq_of_le, BitVec.extractLsb'_append_eq_of_add_le]
  simp

@[simp] theorem slotOfWord_iwWord (k : SlotIndex) (f : IwOperands) : slotOfWord (iwWord k f) = k := by
  unfold slotOfWord iwWord
  simp (disch := omega) only [BitVec.extractLsb'_append_eq_of_add_le]
  simp

@[simp] theorem iwWord_ofWord (w : Word32) : iwWord (slotOfWord w) (operandsOfWord w) = w := by
  simp only [iwWord, slotOfWord, operandsOfWord]
  ext j hj
  simp only [BitVec.getElem_append, BitVec.getElem_extractLsb', BitVec.ofFin_toFin]
  repeat' split
  all_goals (rw [BitVec.getElem_eq_testBit_toNat, BitVec.getLsbD]; congr 1; omega)

/-- Row `e` of the element table (R141-R143). -/
@[simp] theorem shuffle_getElem {α : Type} (rows : ElementRows) (v : Vector α 8) (e : ElementCode) (k : Nat)
    (h : k < 8) : (shuffle rows v e)[k] = v[(elementRow rows e)[k]] := by
  simp [shuffle]

@[simp] theorem bool16_eq_ones (b : Bool) : (bool16 b == ones) = b := by cases b <;> decide

@[simp] theorem expand_getElem (b : BitVec 8) (k : Nat) (h : k < 8) : (expand b)[k] = bool16 b[k] := by
  simp [expand]

@[simp] theorem packMask_getElem (m : Vec) (k : Nat) (h : k < 8) : (packMask m)[k] = (m[k] == ones) := by
  simp [packMask]

@[simp] theorem packMask_expand (b : BitVec 8) : packMask (expand b) = b := by
  ext k hk
  simp

@[simp] theorem markLow_getElem (w : Vector Bool 16) (k : Nat) (h : k < 16) :
    (markLow w)[k] = (decide (k < 8) || w[k]) := by simp [markLow]

@[simp] theorem markHigh_getElem (w : Vector Bool 16) (k : Nat) (h : k < 16) :
    (markHigh w)[k] = (decide (8 ≤ k) || w[k]) := by simp [markHigh]

end Sys2Proof.Machine
end

