-- ==== Sys2Proof/Laws/Ops.lean ====
section
/-! SUPPORT. What each shared operation can do, said once: guarded reads, the end of a command, and the writes an
instruction can make. -/
namespace Sys2Proof.Machine

/-- A read succeeds exactly when every element it needs is written (R39). -/
theorem require_ok_iff (c : Context) (els : List Element) :
    c.require els = .ok () ↔ ∀ el ∈ els, c.written el = true := by
  unfold Context.require
  cases h : els.find? (fun el => !c.written el) with
  | none => simpa [List.find?_eq_none] using h
  | some el =>
    have hm := List.mem_of_find?_eq_some h
    have hu := List.find?_some h
    simp only [reduceCtorEq, false_iff]
    intro hall
    simp [hall el hm] at hu

theorem require_of_written {c : Context} {els : List Element} (h : ∀ el ∈ els, c.written el = true) :
    c.require els = .ok () := (require_ok_iff c els).2 h

/-- A read either succeeds or reports one of its elements, which is unwritten. -/
theorem require_cases (c : Context) (els : List Element) :
    c.require els = .ok () ∨ ∃ el ∈ els, c.written el = false ∧ c.require els = .error (.readBeforeWrite el) := by
  unfold Context.require
  cases h : els.find? (fun el => !c.written el) with
  | none => exact .inl rfl
  | some el =>
    refine .inr ⟨el, List.mem_of_find?_eq_some h, ?_, rfl⟩
    simpa using List.find?_some h

/-- The element reported is the first unwritten one (R205). -/
theorem require_first (c : Context) (pre post : List Element) (el : Element)
    (hpre : ∀ x ∈ pre, c.written x = true) (hel : c.written el = false) :
    c.require (pre ++ el :: post) = .error (.readBeforeWrite el) := by
  unfold Context.require
  have : pre.find? (fun x => !c.written x) = none := by simpa [List.find?_eq_none] using hpre
  simp [List.find?_append, this, hel]

/-- The first unwritten element of an indexed family. -/
theorem require_first_map {n : Nat} (c : Context) (g : Fin n → Element) (j : Fin n)
    (hlow : ∀ k : Fin n, k < j → c.written (g k) = true) (hj : c.written (g j) = false) :
    c.require ((List.finRange n).map g) = .error (.readBeforeWrite (g j)) := by
  unfold Context.require
  have h : ((List.finRange n).map g).find? (fun el => !c.written el) = some (g j) := by
    rw [List.find?_map]
    have : (List.finRange n).find? ((fun el => !c.written el) ∘ g) = some j := by
      rw [List.find?_eq_some_iff_getElem]
      refine ⟨by simp [hj], j.val, by simp, by simp, ?_⟩
      intro k hk
      have := hlow ⟨k, by omega⟩ hk
      simpa using this
    rw [this]
    rfl
  simp [h]

theorem require_map_ok {n : Nat} (c : Context) (g : Fin n → Element) (h : ∀ k, c.written (g k) = true) :
    c.require ((List.finRange n).map g) = .ok () :=
  require_of_written (by simpa using h)

theorem readVr_ok {c : Context} {r : VReg} (h : ∀ i : Lane, c.wvr[r][i] = true) : c.readVr r = .ok c.vr[r] := by
  unfold Context.readVr vrElements
  rw [require_map_ok c (.vr r) h]
  rfl

theorem readVr_first {c : Context} {r : VReg} {j : Lane} (hlow : ∀ k : Lane, k < j → c.wvr[r][k] = true)
    (hj : c.wvr[r][j] = false) : c.readVr r = .error (.readBeforeWrite (.vr r j)) := by
  unfold Context.readVr vrElements
  rw [require_first_map c (.vr r) j hlow hj]
  rfl

/-- A register read gives the register, or reports one of its unwritten lanes. -/
theorem readVr_cases (c : Context) (r : VReg) :
    ((∀ i : Lane, c.wvr[r][i] = true) ∧ c.readVr r = .ok c.vr[r]) ∨
      ∃ j : Lane, c.wvr[r][j] = false ∧ c.readVr r = .error (.readBeforeWrite (.vr r j)) := by
  rcases require_cases c (vrElements r) with h | ⟨el, hm, hu, he⟩
  · refine .inl ⟨?_, by simp [Context.readVr, h, bind, Except.bind, pure, Except.pure]⟩
    intro i
    exact (require_ok_iff c _).1 h (.vr r i) (by simp [vrElements])
  · obtain ⟨j, -, rfl⟩ := List.mem_map.1 hm
    exact .inr ⟨j, hu, by simp [Context.readVr, he, bind, Except.bind]⟩

@[simp] theorem conclude_eq (s : State) (r : Except CommandFault Effect) : s.conclude r = .next (s.settle r) := rfl

/-- The contexts an instruction without a fault can leave. -/
inductive Wrote (s : State) : Context → Prop where
  | nothing : Wrote s s.ctx
  | vr (r : VReg) (v : Vec) : Wrote s (s.ctx.writeVr r v)
  | accLanes (a : Vector (Option Word48) 8) : Wrote s (s.ctx.writeAccLanes a)
  | vco (v : Word16) : Wrote s (s.ctx.writeVco v)
  | vcc (v : Word16) : Wrote s (s.ctx.writeVcc v)
  | vce (v : BitVec 8) : Wrote s (s.ctx.writeVce v)
  | flagByte (f : FlagField) (b : BitVec 8) : Wrote s (s.ctx.writeFlagByte f b)
  | back (vd : VReg) (out : HandlerOut) : Wrote s (s.ctx.writeBack vd out)
  | created : Wrote s (Context.created s.cfg.resetPolicy)

/-- What a command can do: fault, or leave one of these contexts and drive its ports without a report. -/
def Concludes (s : State) (r : Except CommandFault Effect) : Prop :=
  (∃ f, r = .error f) ∨ ∃ eff, r = .ok eff ∧ Wrote s eff.ctx ∧ eff.out.report = none ∧ eff.out.diag = none

theorem concludes_require {s : State} {els : List Element} {eff : Effect} (h : Wrote s eff.ctx)
    (hr : eff.out.report = none) (hd : eff.out.diag = none) :
    Concludes s (do s.ctx.require els; return eff) := by
  rcases require_cases s.ctx els with ho | ⟨el, -, -, he⟩
  · exact .inr ⟨eff, by simp [ho, bind, Except.bind, pure, Except.pure], h, hr, hd⟩
  · exact .inl ⟨_, by simp [he, bind, Except.bind]; rfl⟩

theorem concludes_lanewise (s : State) (f : Word16 → Word16 → Word16) (rd rs : VReg) :
    Concludes s (s.ctx.lanewise f rd rs) := by
  unfold Context.lanewise
  rcases readVr_cases s.ctx rd with ⟨-, ha⟩ | ⟨j, -, ha⟩ <;>
    rcases readVr_cases s.ctx rs with ⟨-, hb⟩ | ⟨k, -, hb⟩ <;>
    simp only [ha, hb, bind, Except.bind, pure, Except.pure]
  · exact .inr ⟨_, rfl, .vr _ _, rfl, rfl⟩
  all_goals exact .inl ⟨_, rfl⟩

theorem concludes_readExpanded (s : State) (f : FlagField) (rd : VReg) :
    Concludes s (s.ctx.readExpanded f rd) := concludes_require (.vr _ _) rfl rfl

theorem concludes_writeExpanded (s : State) (f : FlagField) (rs : VReg) :
    Concludes s (s.ctx.writeExpanded f rs) := by
  unfold Context.writeExpanded
  cases h : s.ctx.readMask rs with
  | error e => exact .inl ⟨e, rfl⟩
  | ok b => exact .inr ⟨_, rfl, .flagByte f b, rfl, rfl⟩

theorem concludes_dispatch (s : State) (iw : Word32) : Concludes s (dispatchEffect s.cfg iw s.ctx) := by
  unfold dispatchEffect
  split
  · exact .inl ⟨_, rfl⟩
  · split
    · exact .inl ⟨_, rfl⟩
    · exact .inr ⟨_, rfl, .back _ _, rfl, rfl⟩

/-- Every instruction is the conclusion of one command. -/
theorem exec_concludes (i : Instr) (s : State) : ∃ r, exec i s = s.conclude r ∧ Concludes s r := by
  cases i <;> refine ⟨_, rfl, ?_⟩
  case vcopy rd rs =>
    rcases readVr_cases s.ctx rs with ⟨-, h⟩ | ⟨j, -, h⟩ <;> simp only [h, bind, Except.bind, pure, Except.pure]
    · exact .inr ⟨_, rfl, .vr _ _, rfl, rfl⟩
    · exact .inl ⟨_, rfl⟩
  case vread rs =>
    rcases readVr_cases s.ctx rs with ⟨-, h⟩ | ⟨j, -, h⟩ <;> simp only [h, bind, Except.bind, pure, Except.pure]
    · exact .inr ⟨_, rfl, .nothing, rfl, rfl⟩
    · exact .inl ⟨_, rfl⟩
  case vwipe => exact .inr ⟨_, rfl, .vr _ _, rfl, rfl⟩
  case vfill => exact .inr ⟨_, rfl, .vr _ _, rfl, rfl⟩
  case vwrite => exact .inr ⟨_, rfl, .vr _ _, rfl, rfl⟩
  case vand => exact concludes_lanewise _ _ _ _
  case vor => exact concludes_lanewise _ _ _ _
  case vxor => exact concludes_lanewise _ _ _ _
  case vcmplt => exact concludes_lanewise _ _ _ _
  case vcmpeq => exact concludes_lanewise _ _ _ _
  case vcmpgt => exact concludes_lanewise _ _ _ _
  case vshuf => exact concludes_require (.vr _ _) rfl rfl
  case getvco =>
    unfold Context.readVco
    rcases require_cases s.ctx vcoElements with h | ⟨_, -, -, h⟩ <;>
      simp only [h, bind, Except.bind, pure, Except.pure]
    · exact .inr ⟨_, rfl, .nothing, rfl, rfl⟩
    · exact .inl ⟨_, rfl⟩
  case getvcc =>
    unfold Context.readVcc
    rcases require_cases s.ctx vccElements with h | ⟨_, -, -, h⟩ <;>
      simp only [h, bind, Except.bind, pure, Except.pure]
    · exact .inr ⟨_, rfl, .nothing, rfl, rfl⟩
    · exact .inl ⟨_, rfl⟩
  case getvce =>
    unfold Context.readVce
    rcases require_cases s.ctx vceElements with h | ⟨_, -, -, h⟩ <;>
      simp only [h, bind, Except.bind, pure, Except.pure]
    · exact .inr ⟨_, rfl, .nothing, rfl, rfl⟩
    · exact .inl ⟨_, rfl⟩
  case setvco => exact .inr ⟨_, rfl, .vco _, rfl, rfl⟩
  case setvcc => exact .inr ⟨_, rfl, .vcc _, rfl, rfl⟩
  case setvce => exact .inr ⟨_, rfl, .vce _, rfl, rfl⟩
  case xrdCo => exact concludes_readExpanded _ _ _
  case xrdNe => exact concludes_readExpanded _ _ _
  case xrdLt => exact concludes_readExpanded _ _ _
  case xrdGe => exact concludes_readExpanded _ _ _
  case xrdCe => exact concludes_readExpanded _ _ _
  case xwrCo => exact concludes_writeExpanded _ _ _
  case xwrNe => exact concludes_writeExpanded _ _ _
  case xwrLt => exact concludes_writeExpanded _ _ _
  case xwrGe => exact concludes_writeExpanded _ _ _
  case xwrCe => exact concludes_writeExpanded _ _ _
  case accrd => exact concludes_require .nothing rfl rfl
  case accwr => exact .inr ⟨_, rfl, .accLanes _, rfl, rfl⟩
  case accrdl => exact concludes_require .nothing rfl rfl
  case accwrl => exact .inr ⟨_, rfl, .accLanes _, rfl, rfl⟩
  case reset => exact .inr ⟨_, rfl, .created, rfl, rfl⟩
  all_goals exact concludes_dispatch _ _

/-- Everything one instruction can do. -/
theorem exec_cases (i : Instr) (s : State) :
    (∃ f, exec i s = .next (s.raise f)) ∨
      ∃ eff : Effect, Wrote s eff.ctx ∧ eff.out.report = none ∧ eff.out.diag = none ∧
        exec i s = .next { s with ctx := eff.ctx, dout := eff.out } := by
  obtain ⟨r, h, ⟨f, rfl⟩ | ⟨eff, rfl, hw, hr, hd⟩⟩ := exec_concludes i s
  · exact .inl ⟨f, h⟩
  · exact .inr ⟨eff, hw, hr, hd, h⟩

/-- Everything one step can do, given a command. -/
theorem step_cases {s t : State} (h : step s = .next t) :
    ∃ r rest, s.pending = r :: rest ∧
      ((∃ q, r.fetch = .error q ∧ t = (s.accept r rest).refuse q) ∨
        ∃ i, r.fetch = .ok i ∧ exec i (s.accept r rest) = .next t) := by
  unfold step at h
  cases hp : s.pending with
  | nil => simp [hp] at h
  | cons r rest =>
    refine ⟨r, rest, rfl, ?_⟩
    cases hf : r.fetch with
    | error q => exact .inl ⟨q, rfl, by simpa [hp, hf] using h.symm⟩
    | ok i => exact .inr ⟨i, rfl, by simpa [hp, hf] using h⟩

end Sys2Proof.Machine
end

