-- ==== Sys2Proof/Laws/Instr.lean ====
section
/-! SUPPORT. What each instruction leaves when it does not fault, said once, and what its outcome depends on. -/
namespace Sys2Proof.Machine

theorem ok_of_bind {ε α β : Type} {x : Except ε α} {g : α → Except ε β} {b : β} (h : (x >>= g) = .ok b) :
    ∃ a, x = .ok a ∧ g a = .ok b := by
  cases x with
  | error e => cases h
  | ok a => exact ⟨a, rfl, h⟩

/-- A handler's answer is written back, and that is all. -/
theorem dispatchEffect_ok {cfg : Config} {iw : Word32} {c : Context} {eff : Effect}
    (h : dispatchEffect cfg iw c = .ok eff) : ∃ out, eff = { ctx := c.writeBack (operandsOfWord iw).vd out } := by
  unfold dispatchEffect at h
  split at h
  · cases h
  · split at h <;> cases h
    exact ⟨_, rfl⟩

/-- The context and the ports an instruction leaves when it does not fault. -/
def Leaves (i : Instr) (s : State) (eff : Effect) : Prop :=
  match i with
  | .vcopy rd _ | .vwipe rd | .vfill rd | .vand rd _ | .vor rd _ | .vxor rd _ | .vcmplt rd _ | .vcmpeq rd _
  | .vcmpgt rd _ | .vshuf rd _ _ | .vwrite rd | .xrdCo rd | .xrdNe rd | .xrdLt rd | .xrdGe rd | .xrdCe rd =>
    ∃ v, eff = { ctx := s.ctx.writeVr rd v }
  | .xwrCo _ => ∃ b, eff = { ctx := s.ctx.writeFlagByte .co b }
  | .xwrNe _ => ∃ b, eff = { ctx := s.ctx.writeFlagByte .ne b }
  | .xwrLt _ => ∃ b, eff = { ctx := s.ctx.writeFlagByte .lt b }
  | .xwrGe _ => ∃ b, eff = { ctx := s.ctx.writeFlagByte .ge b }
  | .xwrCe _ => ∃ b, eff = { ctx := s.ctx.writeFlagByte .ce b }
  | .setvco => ∃ v, eff = { ctx := s.ctx.writeVco v }
  | .setvcc => ∃ v, eff = { ctx := s.ctx.writeVcc v }
  | .setvce => ∃ v, eff = { ctx := s.ctx.writeVce v }
  | .accwr | .accwrl _ => ∃ a, eff = { ctx := s.ctx.writeAccLanes a }
  | .vread _ => ∃ v, eff = { ctx := s.ctx, out := { v := some v } }
  | .getvco | .getvcc | .getvce => ∃ p, eff = { ctx := s.ctx, out := { p := some p } }
  | .accrd => ∃ a, eff = { ctx := s.ctx, out := { acc := some a } }
  | .accrdl _ => ∃ a, eff = { ctx := s.ctx, out := { a := some a } }
  | .reset => eff = { ctx := Context.created s.cfg.resetPolicy }
  | .dispatch => ∃ out, eff = { ctx := s.ctx.writeBack (operandsOfWord s.din.i).vd out }
  | i => ∃ w out, encode i = .slotWord w ∧ eff = { ctx := s.ctx.writeBack (operandsOfWord w).vd out }

/-- Every instruction faults or leaves what `Leaves` says. -/
theorem exec_leaves (i : Instr) (s : State) :
    ∃ r, exec i s = s.conclude r ∧ ∀ eff, r = .ok eff → Leaves i s eff := by
  cases i <;> refine ⟨_, rfl, ?_⟩ <;> intro eff h <;> first
    | (cases h; exact ⟨_, rfl⟩)
    | (cases h; rfl)
    | (obtain ⟨_, _, h⟩ := ok_of_bind h; cases h; exact ⟨_, rfl⟩)
    | (obtain ⟨_, _, h⟩ := ok_of_bind h; obtain ⟨_, _, h⟩ := ok_of_bind h; cases h; exact ⟨_, rfl⟩)
    | (obtain ⟨_, rfl⟩ := dispatchEffect_ok h; exact ⟨_, rfl⟩)
    | (obtain ⟨_, rfl⟩ := dispatchEffect_ok h; exact ⟨_, _, rfl, rfl⟩)

/-- The fault or the effect of an instruction depends on the configuration, the context and the data ports only. -/
theorem exec_depends (i : Instr) (s : State) :
    ∃ r, exec i s = s.conclude r ∧
      ∀ u : State, u.cfg = s.cfg → u.ctx = s.ctx → u.din = s.din → exec i u = u.conclude r := by
  cases i <;> refine ⟨_, rfl, ?_⟩ <;> intro u h1 h2 h3 <;> simp only [← h1, ← h2, ← h3] <;> rfl

/-- One step of a run. -/
theorem run_next (M : Host.Core) {n : Nat} {s t : M.State} (h : M.step s = .next t) : M.run (n + 1) s = M.run n t := by
  simp [Host.Core.run, h]

end Sys2Proof.Machine
end

