-- ==== Sys2Proof/Laws/Image.lean ====
section
/-! SUPPORT. What a save of the state image by commands can do (spec/20_memory.md R53): one command, one read, a list of
reads, and the bytes on a port. -/
namespace Sys2Proof.Machine

/-- A command that decodes, issued on the data the ports hold, is its instruction executed. -/
theorem issue_hostCommand {i : Instr} {w : Word32} (s : State) (he : encode i = .command w)
    (hd : decodeCommand w = .ok i) : s.issue (hostCommand i s.din) = exec i s := by
  unfold State.issue hostCommand
  rw [he]
  simp only [step, requestOf, Request.fetch, hd]
  rfl

@[simp] theorem readBytes_nil (s : State) : s.readBytes [] = .next (s, some []) := rfl

/-- A read whose port is not driven ends the save. -/
theorem readBytes_undriven {s t : State} {rd : ImageRead} {rest : List ImageRead}
    (h : s.issue (hostCommand rd.1 s.din) = .next t) (hp : rd.2 t.dout = none) :
    s.readBytes (rd :: rest) = .next (t, none) := by
  simp [State.readBytes, h, hp]

/-- A read whose port is driven puts its bytes before those of the rest. -/
theorem readBytes_driven {s t u : State} {rd : ImageRead} {rest : List ImageRead} {bytes : List Byte}
    {more : Option (List Byte)} (h : s.issue (hostCommand rd.1 s.din) = .next t) (hp : rd.2 t.dout = some bytes)
    (hr : t.readBytes rest = .next (u, more)) :
    s.readBytes (rd :: rest) = .next (u, more.map (bytes ++ ·)) := by
  simp [State.readBytes, h, hp, hr]

/-- A save that ends in one half of a list of reads ends there; else the second half's bytes follow the first's. -/
theorem readBytes_append (a b : List ImageRead) : ∀ s : State, s.readBytes (a ++ b) =
    match s.readBytes a with
    | .fault f => .fault f
    | .refused q => .refused q
    | .next (t, none) => .next (t, none)
    | .next (t, some bytes) =>
      match t.readBytes b with
      | .fault f => .fault f
      | .refused q => .refused q
      | .next (u, more) => .next (u, more.map (bytes ++ ·)) := by
  induction a with
  | nil => intro s; simp; cases s.readBytes b <;> simp
  | cons rd a ih =>
    intro s
    simp only [List.cons_append, State.readBytes]
    cases s.issue (hostCommand rd.1 s.din) with
    | fault f => rfl
    | refused q => rfl
    | next t =>
      simp only
      cases rd.2 t.dout with
      | none => rfl
      | some bytes =>
        simp only [ih]
        cases t.readBytes a with
        | fault f => rfl
        | refused q => rfl
        | next p =>
          obtain ⟨u, _ | more⟩ := p
          · rfl
          · simp only [Option.map]
            cases u.readBytes b with
            | fault f => rfl
            | refused q => rfl
            | next p => obtain ⟨w, _ | last⟩ := p <;> simp

/-- 565 bytes are an image. The length is a variable, so that nothing counts to 565. -/
theorem imageOfBytes_map_range {n : Nat} (hn : 565 = n) (f : Nat → Byte) :
    imageOfBytes ((List.range n).map f) = some (Vector.ofFn fun k => f k.val) := by
  unfold imageOfBytes
  rw [dif_pos (by simp only [List.length_map, List.length_range, hn])]
  exact congrArg some (Vector.ext fun k hk => by simp)

@[simp] theorem bytesOf_length {w : Nat} (n : Nat) (x : BitVec w) : (bytesOf n x).length = n := by simp [bytesOf]

@[simp] theorem bytesOf_getElem {w : Nat} (n : Nat) (x : BitVec w) (k : Nat) (h : k < (bytesOf n x).length) :
    (bytesOf n x)[k] = x.extractLsb' (8 * (n - 1 - k)) 8 := by simp [bytesOf]

/-- The bytes of a lane are those of its place in the vector (R52, R53). -/
theorem bytesOf_vecBits (v : Vec) : bytesOf 16 (vecBits v) = (List.range 16).map (vecByteAt v) := by
  simp only [bytesOf, List.map_inj_left, List.mem_range]
  intro k hk
  have hx := extract_vecBits v ⟨k / 2, by omega⟩
  have hm : k / 2 % 8 = k / 2 := by omega
  simp only [vecByteAt, byteAt, hm]
  simp only [Fin.getElem_fin] at hx
  rw [← hx]
  split <;> (apply BitVec.eq_of_getLsbD_eq; intro j hj; simp only [BitVec.getLsbD_extractLsb', hj]) <;>
    rw [decide_eq_true (show _ < 16 by omega)] <;> congr 2 <;> omega

end Sys2Proof.Machine
end

