-- ==== Sys2Proof/Laws/PerInstr.lean ====
section
/-! SUPPORT. The family TableMatch: the word of each instruction, under the mask of its row of spec/opcode_table.json,
is the row's match value. -/
namespace Sys2Proof.Laws

/-- The bits of an instruction's word, of either format. -/
def wordOf (i : Instr) : Word32 :=
  match encode i with
  | .command w => w
  | .slotWord w => w

/-- "match" and "mask" of each row of spec/opcode_table.json. -/
def tableRow : Instr → Word32 × Word32
  | .vcopy _ _ => (0x01000000, 0xFF003FFF)
  | .vwipe _ => (0x02000000, 0xFF07FFFF)
  | .vfill _ => (0x03000000, 0xFF07FFFF)
  | .vand _ _ => (0x04000000, 0xFF003FFF)
  | .vor _ _ => (0x05000000, 0xFF003FFF)
  | .vxor _ _ => (0x06000000, 0xFF003FFF)
  | .vcmplt _ _ => (0x07000000, 0xFF003FFF)
  | .vcmpeq _ _ => (0x08000000, 0xFF003FFF)
  | .vcmpgt _ _ => (0x09000000, 0xFF003FFF)
  | .vshuf _ _ _ => (0x10000000, 0xFF0003FF)
  | .vread _ => (0x11000000, 0xFFF83FFF)
  | .vwrite _ => (0x12000000, 0xFF07FFFF)
  | .getvco => (0x20000000, 0xFFFFFFFF)
  | .getvcc => (0x21000000, 0xFFFFFFFF)
  | .getvce => (0x22000000, 0xFFFFFFFF)
  | .setvco => (0x24000000, 0xFFFFFFFF)
  | .setvcc => (0x25000000, 0xFFFFFFFF)
  | .setvce => (0x26000000, 0xFFFFFFFF)
  | .xrdCo _ => (0x30000000, 0xFF07FFFF)
  | .xrdNe _ => (0x31000000, 0xFF07FFFF)
  | .xrdLt _ => (0x32000000, 0xFF07FFFF)
  | .xrdGe _ => (0x33000000, 0xFF07FFFF)
  | .xrdCe _ => (0x34000000, 0xFF07FFFF)
  | .xwrCo _ => (0x38000000, 0xFFF83FFF)
  | .xwrNe _ => (0x39000000, 0xFFF83FFF)
  | .xwrLt _ => (0x3A000000, 0xFFF83FFF)
  | .xwrGe _ => (0x3B000000, 0xFFF83FFF)
  | .xwrCe _ => (0x3C000000, 0xFFF83FFF)
  | .accrd => (0x40000000, 0xFFFFFFFF)
  | .accwr => (0x41000000, 0xFFFFFFFF)
  | .accrdl _ => (0x42000000, 0xFFFFFC7F)
  | .accwrl _ => (0x43000000, 0xFFFFFC7F)
  | .dispatch => (0x50000000, 0xFFFFFFFF)
  | .reset => (0x7F000000, 0xFFFFFFFF)
  | .iwVmulf _ => (0x00000000, 0x0000003F)
  | .iwVmulu _ => (0x00000001, 0x0000003F)
  | .iwVrndp _ => (0x00000002, 0x0000003F)
  | .iwVmulq _ => (0x00000003, 0x0000003F)
  | .iwVmudl _ => (0x00000004, 0x0000003F)
  | .iwVmudm _ => (0x00000005, 0x0000003F)
  | .iwVmudn _ => (0x00000006, 0x0000003F)
  | .iwVmudh _ => (0x00000007, 0x0000003F)
  | .iwVmacf _ => (0x00000008, 0x0000003F)
  | .iwVmacu _ => (0x00000009, 0x0000003F)
  | .iwVrndn _ => (0x0000000A, 0x0000003F)
  | .iwVmacq _ => (0x0000000B, 0x0000003F)
  | .iwVmadl _ => (0x0000000C, 0x0000003F)
  | .iwVmadm _ => (0x0000000D, 0x0000003F)
  | .iwVmadn _ => (0x0000000E, 0x0000003F)
  | .iwVmadh _ => (0x0000000F, 0x0000003F)
  | .iwVadd _ => (0x00000010, 0x0000003F)
  | .iwVsub _ => (0x00000011, 0x0000003F)
  | .iwVsut _ => (0x00000012, 0x0000003F)
  | .iwVabs _ => (0x00000013, 0x0000003F)
  | .iwVaddc _ => (0x00000014, 0x0000003F)
  | .iwVsubc _ => (0x00000015, 0x0000003F)
  | .iwVaddb _ => (0x00000016, 0x0000003F)
  | .iwVsubb _ => (0x00000017, 0x0000003F)
  | .iwVaccb _ => (0x00000018, 0x0000003F)
  | .iwVsucb _ => (0x00000019, 0x0000003F)
  | .iwVsad _ => (0x0000001A, 0x0000003F)
  | .iwVsac _ => (0x0000001B, 0x0000003F)
  | .iwVsum _ => (0x0000001C, 0x0000003F)
  | .iwVsar _ => (0x0000001D, 0x0000003F)
  | .iwV30 _ => (0x0000001E, 0x0000003F)
  | .iwV31 _ => (0x0000001F, 0x0000003F)
  | .iwVlt _ => (0x00000020, 0x0000003F)
  | .iwVeq _ => (0x00000021, 0x0000003F)
  | .iwVne _ => (0x00000022, 0x0000003F)
  | .iwVge _ => (0x00000023, 0x0000003F)
  | .iwVcl _ => (0x00000024, 0x0000003F)
  | .iwVch _ => (0x00000025, 0x0000003F)
  | .iwVcr _ => (0x00000026, 0x0000003F)
  | .iwVmrg _ => (0x00000027, 0x0000003F)
  | .iwVand _ => (0x00000028, 0x0000003F)
  | .iwVnand _ => (0x00000029, 0x0000003F)
  | .iwVor _ => (0x0000002A, 0x0000003F)
  | .iwVnor _ => (0x0000002B, 0x0000003F)
  | .iwVxor _ => (0x0000002C, 0x0000003F)
  | .iwVnxor _ => (0x0000002D, 0x0000003F)
  | .iwV46 _ => (0x0000002E, 0x0000003F)
  | .iwV47 _ => (0x0000002F, 0x0000003F)
  | .iwVrcp _ => (0x00000030, 0x0000003F)
  | .iwVrcpl _ => (0x00000031, 0x0000003F)
  | .iwVrcph _ => (0x00000032, 0x0000003F)
  | .iwVmov _ => (0x00000033, 0x0000003F)
  | .iwVrsq _ => (0x00000034, 0x0000003F)
  | .iwVrsql _ => (0x00000035, 0x0000003F)
  | .iwVrsqh _ => (0x00000036, 0x0000003F)
  | .iwVnop _ => (0x00000037, 0x0000003F)
  | .iwVextt _ => (0x00000038, 0x0000003F)
  | .iwVextq _ => (0x00000039, 0x0000003F)
  | .iwVextn _ => (0x0000003A, 0x0000003F)
  | .iwV59 _ => (0x0000003B, 0x0000003F)
  | .iwVinst _ => (0x0000003C, 0x0000003F)
  | .iwVinsq _ => (0x0000003D, 0x0000003F)
  | .iwVinsn _ => (0x0000003E, 0x0000003F)
  | .iwVnull _ => (0x0000003F, 0x0000003F)

def TableMatch.Statement (i : Instr) : Prop := wordOf i &&& (tableRow i).2 = (tableRow i).1

theorem cmdWord_mask_rd_rs (op : BitVec 8) (rd rs : VReg) : cmdWord op rd rs 0 0 &&& 0xFF003FFF = op ++ 0#24 := by
  unfold cmdWord
  apply BitVec.eq_of_getLsbD_eq
  intro j hj
  simp only [BitVec.getLsbD_and, BitVec.getLsbD_append]
  interval_cases j <;> simp

theorem cmdWord_mask_rd (op : BitVec 8) (rd : VReg) : cmdWord op rd 0 0 0 &&& 0xFF07FFFF = op ++ 0#24 := by
  unfold cmdWord
  apply BitVec.eq_of_getLsbD_eq
  intro j hj
  simp only [BitVec.getLsbD_and, BitVec.getLsbD_append]
  interval_cases j <;> simp

theorem cmdWord_mask_rs (op : BitVec 8) (rs : VReg) : cmdWord op 0 rs 0 0 &&& 0xFFF83FFF = op ++ 0#24 := by
  unfold cmdWord
  apply BitVec.eq_of_getLsbD_eq
  intro j hj
  simp only [BitVec.getLsbD_and, BitVec.getLsbD_append]
  interval_cases j <;> simp

theorem cmdWord_mask_rd_rs_e (op : BitVec 8) (rd rs : VReg) (e : ElementCode) :
    cmdWord op rd rs e 0 &&& 0xFF0003FF = op ++ 0#24 := by
  unfold cmdWord
  apply BitVec.eq_of_getLsbD_eq
  intro j hj
  simp only [BitVec.getLsbD_and, BitVec.getLsbD_append]
  interval_cases j <;> simp

theorem cmdWord_mask_lane (op : BitVec 8) (lane : Lane) : cmdWord op 0 0 0 lane &&& 0xFFFFFC7F = op ++ 0#24 := by
  unfold cmdWord
  apply BitVec.eq_of_getLsbD_eq
  intro j hj
  simp only [BitVec.getLsbD_and, BitVec.getLsbD_append]
  interval_cases j <;> simp

theorem iwWord_mask (k : SlotIndex) (f : IwOperands) : iwWord k f &&& 0x3F = 0#26 ++ BitVec.ofFin (w := 6) k := by
  unfold iwWord
  apply BitVec.eq_of_getLsbD_eq
  intro j hj
  simp only [BitVec.getLsbD_and, BitVec.getLsbD_append]
  interval_cases j <;> simp

theorem TableMatch.vcopy (rd : VReg) (rs : VReg) : TableMatch.Statement (.vcopy rd rs) := cmdWord_mask_rd_rs 0x01 rd rs
theorem TableMatch.vwipe (rd : VReg) : TableMatch.Statement (.vwipe rd) := cmdWord_mask_rd 0x02 rd
theorem TableMatch.vfill (rd : VReg) : TableMatch.Statement (.vfill rd) := cmdWord_mask_rd 0x03 rd
theorem TableMatch.vand (rd : VReg) (rs : VReg) : TableMatch.Statement (.vand rd rs) := cmdWord_mask_rd_rs 0x04 rd rs
theorem TableMatch.vor (rd : VReg) (rs : VReg) : TableMatch.Statement (.vor rd rs) := cmdWord_mask_rd_rs 0x05 rd rs
theorem TableMatch.vxor (rd : VReg) (rs : VReg) : TableMatch.Statement (.vxor rd rs) := cmdWord_mask_rd_rs 0x06 rd rs
theorem TableMatch.vcmplt (rd : VReg) (rs : VReg) : TableMatch.Statement (.vcmplt rd rs) := cmdWord_mask_rd_rs 0x07 rd rs
theorem TableMatch.vcmpeq (rd : VReg) (rs : VReg) : TableMatch.Statement (.vcmpeq rd rs) := cmdWord_mask_rd_rs 0x08 rd rs
theorem TableMatch.vcmpgt (rd : VReg) (rs : VReg) : TableMatch.Statement (.vcmpgt rd rs) := cmdWord_mask_rd_rs 0x09 rd rs
theorem TableMatch.vshuf (rd : VReg) (rs : VReg) (e : ElementCode) : TableMatch.Statement (.vshuf rd rs e) := cmdWord_mask_rd_rs_e 0x10 rd rs e
theorem TableMatch.vread (rs : VReg) : TableMatch.Statement (.vread rs) := cmdWord_mask_rs 0x11 rs
theorem TableMatch.vwrite (rd : VReg) : TableMatch.Statement (.vwrite rd) := cmdWord_mask_rd 0x12 rd
theorem TableMatch.getvco : TableMatch.Statement (.getvco) := by
  unfold TableMatch.Statement
  decide
theorem TableMatch.getvcc : TableMatch.Statement (.getvcc) := by
  unfold TableMatch.Statement
  decide
theorem TableMatch.getvce : TableMatch.Statement (.getvce) := by
  unfold TableMatch.Statement
  decide
theorem TableMatch.setvco : TableMatch.Statement (.setvco) := by
  unfold TableMatch.Statement
  decide
theorem TableMatch.setvcc : TableMatch.Statement (.setvcc) := by
  unfold TableMatch.Statement
  decide
theorem TableMatch.setvce : TableMatch.Statement (.setvce) := by
  unfold TableMatch.Statement
  decide
theorem TableMatch.xrdCo (rd : VReg) : TableMatch.Statement (.xrdCo rd) := cmdWord_mask_rd 0x30 rd
theorem TableMatch.xrdNe (rd : VReg) : TableMatch.Statement (.xrdNe rd) := cmdWord_mask_rd 0x31 rd
theorem TableMatch.xrdLt (rd : VReg) : TableMatch.Statement (.xrdLt rd) := cmdWord_mask_rd 0x32 rd
theorem TableMatch.xrdGe (rd : VReg) : TableMatch.Statement (.xrdGe rd) := cmdWord_mask_rd 0x33 rd
theorem TableMatch.xrdCe (rd : VReg) : TableMatch.Statement (.xrdCe rd) := cmdWord_mask_rd 0x34 rd
theorem TableMatch.xwrCo (rs : VReg) : TableMatch.Statement (.xwrCo rs) := cmdWord_mask_rs 0x38 rs
theorem TableMatch.xwrNe (rs : VReg) : TableMatch.Statement (.xwrNe rs) := cmdWord_mask_rs 0x39 rs
theorem TableMatch.xwrLt (rs : VReg) : TableMatch.Statement (.xwrLt rs) := cmdWord_mask_rs 0x3A rs
theorem TableMatch.xwrGe (rs : VReg) : TableMatch.Statement (.xwrGe rs) := cmdWord_mask_rs 0x3B rs
theorem TableMatch.xwrCe (rs : VReg) : TableMatch.Statement (.xwrCe rs) := cmdWord_mask_rs 0x3C rs
theorem TableMatch.accrd : TableMatch.Statement (.accrd) := by
  unfold TableMatch.Statement
  decide
theorem TableMatch.accwr : TableMatch.Statement (.accwr) := by
  unfold TableMatch.Statement
  decide
theorem TableMatch.accrdl (lane : Lane) : TableMatch.Statement (.accrdl lane) := cmdWord_mask_lane 0x42 lane
theorem TableMatch.accwrl (lane : Lane) : TableMatch.Statement (.accwrl lane) := cmdWord_mask_lane 0x43 lane
theorem TableMatch.dispatch : TableMatch.Statement (.dispatch) := by
  unfold TableMatch.Statement
  decide
theorem TableMatch.reset : TableMatch.Statement (.reset) := by
  unfold TableMatch.Statement
  decide
theorem TableMatch.iwVmulf (f : IwOperands) : TableMatch.Statement (.iwVmulf f) := iwWord_mask 0 f
theorem TableMatch.iwVmulu (f : IwOperands) : TableMatch.Statement (.iwVmulu f) := iwWord_mask 1 f
theorem TableMatch.iwVrndp (f : IwOperands) : TableMatch.Statement (.iwVrndp f) := iwWord_mask 2 f
theorem TableMatch.iwVmulq (f : IwOperands) : TableMatch.Statement (.iwVmulq f) := iwWord_mask 3 f
theorem TableMatch.iwVmudl (f : IwOperands) : TableMatch.Statement (.iwVmudl f) := iwWord_mask 4 f
theorem TableMatch.iwVmudm (f : IwOperands) : TableMatch.Statement (.iwVmudm f) := iwWord_mask 5 f
theorem TableMatch.iwVmudn (f : IwOperands) : TableMatch.Statement (.iwVmudn f) := iwWord_mask 6 f
theorem TableMatch.iwVmudh (f : IwOperands) : TableMatch.Statement (.iwVmudh f) := iwWord_mask 7 f
theorem TableMatch.iwVmacf (f : IwOperands) : TableMatch.Statement (.iwVmacf f) := iwWord_mask 8 f
theorem TableMatch.iwVmacu (f : IwOperands) : TableMatch.Statement (.iwVmacu f) := iwWord_mask 9 f
theorem TableMatch.iwVrndn (f : IwOperands) : TableMatch.Statement (.iwVrndn f) := iwWord_mask 10 f
theorem TableMatch.iwVmacq (f : IwOperands) : TableMatch.Statement (.iwVmacq f) := iwWord_mask 11 f
theorem TableMatch.iwVmadl (f : IwOperands) : TableMatch.Statement (.iwVmadl f) := iwWord_mask 12 f
theorem TableMatch.iwVmadm (f : IwOperands) : TableMatch.Statement (.iwVmadm f) := iwWord_mask 13 f
theorem TableMatch.iwVmadn (f : IwOperands) : TableMatch.Statement (.iwVmadn f) := iwWord_mask 14 f
theorem TableMatch.iwVmadh (f : IwOperands) : TableMatch.Statement (.iwVmadh f) := iwWord_mask 15 f
theorem TableMatch.iwVadd (f : IwOperands) : TableMatch.Statement (.iwVadd f) := iwWord_mask 16 f
theorem TableMatch.iwVsub (f : IwOperands) : TableMatch.Statement (.iwVsub f) := iwWord_mask 17 f
theorem TableMatch.iwVsut (f : IwOperands) : TableMatch.Statement (.iwVsut f) := iwWord_mask 18 f
theorem TableMatch.iwVabs (f : IwOperands) : TableMatch.Statement (.iwVabs f) := iwWord_mask 19 f
theorem TableMatch.iwVaddc (f : IwOperands) : TableMatch.Statement (.iwVaddc f) := iwWord_mask 20 f
theorem TableMatch.iwVsubc (f : IwOperands) : TableMatch.Statement (.iwVsubc f) := iwWord_mask 21 f
theorem TableMatch.iwVaddb (f : IwOperands) : TableMatch.Statement (.iwVaddb f) := iwWord_mask 22 f
theorem TableMatch.iwVsubb (f : IwOperands) : TableMatch.Statement (.iwVsubb f) := iwWord_mask 23 f
theorem TableMatch.iwVaccb (f : IwOperands) : TableMatch.Statement (.iwVaccb f) := iwWord_mask 24 f
theorem TableMatch.iwVsucb (f : IwOperands) : TableMatch.Statement (.iwVsucb f) := iwWord_mask 25 f
theorem TableMatch.iwVsad (f : IwOperands) : TableMatch.Statement (.iwVsad f) := iwWord_mask 26 f
theorem TableMatch.iwVsac (f : IwOperands) : TableMatch.Statement (.iwVsac f) := iwWord_mask 27 f
theorem TableMatch.iwVsum (f : IwOperands) : TableMatch.Statement (.iwVsum f) := iwWord_mask 28 f
theorem TableMatch.iwVsar (f : IwOperands) : TableMatch.Statement (.iwVsar f) := iwWord_mask 29 f
theorem TableMatch.iwV30 (f : IwOperands) : TableMatch.Statement (.iwV30 f) := iwWord_mask 30 f
theorem TableMatch.iwV31 (f : IwOperands) : TableMatch.Statement (.iwV31 f) := iwWord_mask 31 f
theorem TableMatch.iwVlt (f : IwOperands) : TableMatch.Statement (.iwVlt f) := iwWord_mask 32 f
theorem TableMatch.iwVeq (f : IwOperands) : TableMatch.Statement (.iwVeq f) := iwWord_mask 33 f
theorem TableMatch.iwVne (f : IwOperands) : TableMatch.Statement (.iwVne f) := iwWord_mask 34 f
theorem TableMatch.iwVge (f : IwOperands) : TableMatch.Statement (.iwVge f) := iwWord_mask 35 f
theorem TableMatch.iwVcl (f : IwOperands) : TableMatch.Statement (.iwVcl f) := iwWord_mask 36 f
theorem TableMatch.iwVch (f : IwOperands) : TableMatch.Statement (.iwVch f) := iwWord_mask 37 f
theorem TableMatch.iwVcr (f : IwOperands) : TableMatch.Statement (.iwVcr f) := iwWord_mask 38 f
theorem TableMatch.iwVmrg (f : IwOperands) : TableMatch.Statement (.iwVmrg f) := iwWord_mask 39 f
theorem TableMatch.iwVand (f : IwOperands) : TableMatch.Statement (.iwVand f) := iwWord_mask 40 f
theorem TableMatch.iwVnand (f : IwOperands) : TableMatch.Statement (.iwVnand f) := iwWord_mask 41 f
theorem TableMatch.iwVor (f : IwOperands) : TableMatch.Statement (.iwVor f) := iwWord_mask 42 f
theorem TableMatch.iwVnor (f : IwOperands) : TableMatch.Statement (.iwVnor f) := iwWord_mask 43 f
theorem TableMatch.iwVxor (f : IwOperands) : TableMatch.Statement (.iwVxor f) := iwWord_mask 44 f
theorem TableMatch.iwVnxor (f : IwOperands) : TableMatch.Statement (.iwVnxor f) := iwWord_mask 45 f
theorem TableMatch.iwV46 (f : IwOperands) : TableMatch.Statement (.iwV46 f) := iwWord_mask 46 f
theorem TableMatch.iwV47 (f : IwOperands) : TableMatch.Statement (.iwV47 f) := iwWord_mask 47 f
theorem TableMatch.iwVrcp (f : IwOperands) : TableMatch.Statement (.iwVrcp f) := iwWord_mask 48 f
theorem TableMatch.iwVrcpl (f : IwOperands) : TableMatch.Statement (.iwVrcpl f) := iwWord_mask 49 f
theorem TableMatch.iwVrcph (f : IwOperands) : TableMatch.Statement (.iwVrcph f) := iwWord_mask 50 f
theorem TableMatch.iwVmov (f : IwOperands) : TableMatch.Statement (.iwVmov f) := iwWord_mask 51 f
theorem TableMatch.iwVrsq (f : IwOperands) : TableMatch.Statement (.iwVrsq f) := iwWord_mask 52 f
theorem TableMatch.iwVrsql (f : IwOperands) : TableMatch.Statement (.iwVrsql f) := iwWord_mask 53 f
theorem TableMatch.iwVrsqh (f : IwOperands) : TableMatch.Statement (.iwVrsqh f) := iwWord_mask 54 f
theorem TableMatch.iwVnop (f : IwOperands) : TableMatch.Statement (.iwVnop f) := iwWord_mask 55 f
theorem TableMatch.iwVextt (f : IwOperands) : TableMatch.Statement (.iwVextt f) := iwWord_mask 56 f
theorem TableMatch.iwVextq (f : IwOperands) : TableMatch.Statement (.iwVextq f) := iwWord_mask 57 f
theorem TableMatch.iwVextn (f : IwOperands) : TableMatch.Statement (.iwVextn f) := iwWord_mask 58 f
theorem TableMatch.iwV59 (f : IwOperands) : TableMatch.Statement (.iwV59 f) := iwWord_mask 59 f
theorem TableMatch.iwVinst (f : IwOperands) : TableMatch.Statement (.iwVinst f) := iwWord_mask 60 f
theorem TableMatch.iwVinsq (f : IwOperands) : TableMatch.Statement (.iwVinsq f) := iwWord_mask 61 f
theorem TableMatch.iwVinsn (f : IwOperands) : TableMatch.Statement (.iwVinsn f) := iwWord_mask 62 f
theorem TableMatch.iwVnull (f : IwOperands) : TableMatch.Statement (.iwVnull f) := iwWord_mask 63 f

end Sys2Proof.Laws
end

