-- ==== Sys2Proof/Machine/Asm.lean ====
section
/-! DEFINITION. Assembler text (spec/30_encoding.md R83, R84). -/
namespace Sys2Proof.Machine

/-- `$v0` .. `$v31` (R83). -/
def regText (r : VReg) : String := "$v" ++ toString r.val

/-- The element names of R84; codes 0 and 1 have none. -/
def elementText (e : ElementCode) : String :=
  if e.val < 2 then ""
  else if e.val < 4 then "[" ++ toString (e.val - 2) ++ "q]"
  else if e.val < 8 then "[" ++ toString (e.val - 4) ++ "h]"
  else "[" ++ toString (e.val - 8) ++ "]"

/-- An instruction word: `vxxx $vd, $vs, $vt[e]` (R84). -/
def slotText (name : String) (f : IwOperands) : String :=
  name ++ " " ++ regText f.vd ++ ", " ++ regText f.vs ++ ", " ++ regText f.vt ++ elementText f.e

/-- The text of an instruction (R83); VSHUF shows its element code as a number. -/
def Instr.text : Instr → String
  | .vcopy rd rs => "VCOPY " ++ regText rd ++ ", " ++ regText rs
  | .vwipe rd => "VWIPE " ++ regText rd
  | .vfill rd => "VFILL " ++ regText rd
  | .vand rd rs => "VAND " ++ regText rd ++ ", " ++ regText rs
  | .vor rd rs => "VOR " ++ regText rd ++ ", " ++ regText rs
  | .vxor rd rs => "VXOR " ++ regText rd ++ ", " ++ regText rs
  | .vcmplt rd rs => "VCMPLT " ++ regText rd ++ ", " ++ regText rs
  | .vcmpeq rd rs => "VCMPEQ " ++ regText rd ++ ", " ++ regText rs
  | .vcmpgt rd rs => "VCMPGT " ++ regText rd ++ ", " ++ regText rs
  | .vshuf rd rs e => "VSHUF " ++ regText rd ++ ", " ++ regText rs ++ "[" ++ toString e.val ++ "]"
  | .vread rs => "VREAD " ++ regText rs ++ " -> DOUT_V"
  | .vwrite rd => "VWRITE " ++ regText rd ++ " <- DIN_V"
  | .getvco => "GETVCO -> DOUT_P"
  | .getvcc => "GETVCC -> DOUT_P"
  | .getvce => "GETVCE -> DOUT_P"
  | .setvco => "SETVCO <- DIN_P"
  | .setvcc => "SETVCC <- DIN_P"
  | .setvce => "SETVCE <- DIN_P"
  | .xrdCo rd => "XRD.CO " ++ regText rd
  | .xrdNe rd => "XRD.NE " ++ regText rd
  | .xrdLt rd => "XRD.LT " ++ regText rd
  | .xrdGe rd => "XRD.GE " ++ regText rd
  | .xrdCe rd => "XRD.CE " ++ regText rd
  | .xwrCo rs => "XWR.CO " ++ regText rs
  | .xwrNe rs => "XWR.NE " ++ regText rs
  | .xwrLt rs => "XWR.LT " ++ regText rs
  | .xwrGe rs => "XWR.GE " ++ regText rs
  | .xwrCe rs => "XWR.CE " ++ regText rs
  | .accrd => "ACCRD -> DOUT_ACC"
  | .accwr => "ACCWR <- DIN_ACC"
  | .accrdl lane => "ACCRDL " ++ toString lane.val ++ " -> DOUT_A"
  | .accwrl lane => "ACCWRL " ++ toString lane.val ++ " <- DIN_A"
  | .dispatch => "DISPATCH <- DIN_I"
  | .reset => "RESET"
  | .iwVmulf f => slotText "vmulf" f
  | .iwVmulu f => slotText "vmulu" f
  | .iwVrndp f => slotText "vrndp" f
  | .iwVmulq f => slotText "vmulq" f
  | .iwVmudl f => slotText "vmudl" f
  | .iwVmudm f => slotText "vmudm" f
  | .iwVmudn f => slotText "vmudn" f
  | .iwVmudh f => slotText "vmudh" f
  | .iwVmacf f => slotText "vmacf" f
  | .iwVmacu f => slotText "vmacu" f
  | .iwVrndn f => slotText "vrndn" f
  | .iwVmacq f => slotText "vmacq" f
  | .iwVmadl f => slotText "vmadl" f
  | .iwVmadm f => slotText "vmadm" f
  | .iwVmadn f => slotText "vmadn" f
  | .iwVmadh f => slotText "vmadh" f
  | .iwVadd f => slotText "vadd" f
  | .iwVsub f => slotText "vsub" f
  | .iwVsut f => slotText "vsut" f
  | .iwVabs f => slotText "vabs" f
  | .iwVaddc f => slotText "vaddc" f
  | .iwVsubc f => slotText "vsubc" f
  | .iwVaddb f => slotText "vaddb" f
  | .iwVsubb f => slotText "vsubb" f
  | .iwVaccb f => slotText "vaccb" f
  | .iwVsucb f => slotText "vsucb" f
  | .iwVsad f => slotText "vsad" f
  | .iwVsac f => slotText "vsac" f
  | .iwVsum f => slotText "vsum" f
  | .iwVsar f => slotText "vsar" f
  | .iwV30 f => slotText "v30" f
  | .iwV31 f => slotText "v31" f
  | .iwVlt f => slotText "vlt" f
  | .iwVeq f => slotText "veq" f
  | .iwVne f => slotText "vne" f
  | .iwVge f => slotText "vge" f
  | .iwVcl f => slotText "vcl" f
  | .iwVch f => slotText "vch" f
  | .iwVcr f => slotText "vcr" f
  | .iwVmrg f => slotText "vmrg" f
  | .iwVand f => slotText "vand" f
  | .iwVnand f => slotText "vnand" f
  | .iwVor f => slotText "vor" f
  | .iwVnor f => slotText "vnor" f
  | .iwVxor f => slotText "vxor" f
  | .iwVnxor f => slotText "vnxor" f
  | .iwV46 f => slotText "v46" f
  | .iwV47 f => slotText "v47" f
  | .iwVrcp f => slotText "vrcp" f
  | .iwVrcpl f => slotText "vrcpl" f
  | .iwVrcph f => slotText "vrcph" f
  | .iwVmov f => slotText "vmov" f
  | .iwVrsq f => slotText "vrsq" f
  | .iwVrsql f => slotText "vrsql" f
  | .iwVrsqh f => slotText "vrsqh" f
  | .iwVnop f => slotText "vnop" f
  | .iwVextt f => slotText "vextt" f
  | .iwVextq f => slotText "vextq" f
  | .iwVextn f => slotText "vextn" f
  | .iwV59 f => slotText "v59" f
  | .iwVinst f => slotText "vinst" f
  | .iwVinsq f => slotText "vinsq" f
  | .iwVinsn f => slotText "vinsn" f
  | .iwVnull f => slotText "vnull" f

end Sys2Proof.Machine
end

