-- ==== Sys2Proof/Tests/Slice0.lean ====
section
/-! SUPPORT. Tests. Expected values are those of spec/95_test_vectors.md (D1.1 to P4) and of the rules' examples; each
test names its source. The last part holds the witnesses of the statements' hypotheses. -/
namespace Sys2Proof.Tests
open Sys2Proof Sys2Proof.Machine Sys2Proof.Claims

/-- One field of the next state, if there is one. -/
def seen {α : Type} (o : Host.Outcome State Fault Refusal) (f : State → α) : Option α :=
  match o with
  | .next t => some (f t)
  | .fault _ => none
  | .refused _ => none

/-- A fresh instance with one register written. -/
def with1 (r : VReg) (v : Vec) : State := { State.reset with ctx := State.reset.ctx.writeVr r v }

/-- A fresh instance with `VR[1]` and `VR[2]` written. -/
def with12 (a b : Vec) : State := { State.reset with ctx := (State.reset.ctx.writeVr 1 a).writeVr 2 b }

def a1 : Vec := #v[0x00FF, 0xF0F0, 0xFFFF, 0x0000, 0x1234, 0x8000, 0x5555, 0xAAAA]
def b1 : Vec := #v[0x0F0F, 0xFF00, 0x0000, 0xFFFF, 0xFFFF, 0x8001, 0xAAAA, 0xAAAA]
def a2 : Vec := #v[0x8000, 0x7FFF, 0xFFFF, 0x0000, 0x0001, 0x8000, 0x7FFF, 0xFFFF]
def b2 : Vec := #v[0x7FFF, 0x8000, 0x0000, 0xFFFF, 0x0001, 0x8000, 0x7FFF, 0x0001]
def src : Vec := #v[0x1000, 0x1001, 0x1002, 0x1003, 0x1004, 0x1005, 0x1006, 0x1007]
def mask7 : Vec := #v[0xFFFF, 0, 0, 0, 0, 0, 0, 0xFFFF]

/-! ## Decoding: words of the spec -/

theorem test_decode_vcopy : decodeCommand 0x01104000 = .ok (.vcopy 2 1) := by decide
theorem test_decode_vxor : decodeCommand 0x06088000 = .ok (.vxor 1 2) := by decide
theorem test_decode_vshuf : decodeCommand 0x10107C00 = .ok (.vshuf 2 1 15) := by decide
theorem test_decode_vread : decodeCommand 0x1107C000 = .ok (.vread 31) := by decide
theorem test_decode_vwrite : decodeCommand 0x12180000 = .ok (.vwrite 3) := by decide
theorem test_decode_getvce : decodeCommand 0x22000000 = .ok .getvce := by decide
theorem test_decode_setvcc : decodeCommand 0x25000000 = .ok .setvcc := by decide
theorem test_decode_xrd_ne : decodeCommand 0x31200000 = .ok (.xrdNe 4) := by decide
theorem test_decode_xwr_ge : decodeCommand 0x3B01C000 = .ok (.xwrGe 7) := by decide
theorem test_decode_accwrl : decodeCommand 0x43000180 = .ok (.accwrl 3) := by decide
theorem test_decode_reset : decodeCommand 0x7F000000 = .ok .reset := by decide
/-- D5.2: slot 0x28, vd 3, vs 1, vt 2, e 2. -/
theorem test_decode_slot : decodeSlotWord 0x4A4208E8 = .iwVand ⟨0x25, 2, 2, 1, 3⟩ := by decide
/-- P4: slot 0x20, vd 3, vs 1, vt 2, e 8. -/
theorem test_decode_slot_e8 : decodeSlotWord 0x4B0208E0 = .iwVlt ⟨0x25, 8, 2, 1, 3⟩ := by decide
/-- D5.7: bits 31:25 are not examined. -/
theorem test_decode_slot_high : decodeSlotWord 0x000208E8 = .iwVand ⟨0, 0, 2, 1, 3⟩ := by decide
theorem test_table_command : decodeTableWord 32 0x01104000 = some (.vcopy 2 1) := by decide
theorem test_table_slot : decodeTableWord 32 0x4A0208E8 = some (.iwVand ⟨0x25, 0, 2, 1, 3⟩) := by decide

/-! ## Ill-formed words and pseudo-instructions -/

/-- D6.3 to D6.6. -/
theorem test_ill_formed_z : wellFormedCommandWord 0x01088001 = false := by decide
theorem test_ill_formed_rs : wellFormedCommandWord 0x02204000 = false := by decide
theorem test_ill_formed_op : wellFormedCommandWord 0x13000000 = false := by decide
theorem test_ill_formed_zero_word : wellFormedCommandWord 0x00000000 = false := by decide
/-- R72 for the other fields: `rd` of VREAD, `e` and `lane` of VCOPY. -/
theorem test_ill_formed_rd : wellFormedCommandWord 0x11080000 = false := by decide
theorem test_ill_formed_e : wellFormedCommandWord 0x01000400 = false := by decide
theorem test_ill_formed_lane : wellFormedCommandWord 0x01000080 = false := by decide
/-- R85: the scratch register must differ from the destination. -/
theorem test_ill_formed_vcmpge : (Pseudo.vcmpge 3 2 3).wellFormed = false := by decide
theorem test_ill_formed_vcmple : (Pseudo.vcmple 3 2 3).wellFormed = false := by decide
theorem test_ill_formed_vcmpne : (Pseudo.vcmpne 3 2 3).wellFormed = false := by decide
theorem test_ill_formed_vnot : (Pseudo.vnot 3 3).wellFormed = false := by decide

/-! ## Register file and accumulator -/

/-- D1.1. -/
theorem test_vread_unwritten :
    seen (exec (.vread 3) .reset) (fun t => t.fault) = some (some (.readBeforeWrite (.vr 3 0))) := by decide
/-- R100's example. -/
theorem test_vread : seen (exec (.vread 3) (with1 3 #v[1, 2, 3, 4, 5, 6, 7, 8])) (fun t => t.dout.v) =
    some (some 0x00010002000300040005000600070008) := by decide
/-- D1.2. -/
theorem test_vwrite : seen (exec (.vwrite 3) { State.reset with din := { v := 0xFFFF80007FFF00000001000200030004 } })
    (fun t => t.ctx.vr[3]) = some #v[0xFFFF, 0x8000, 0x7FFF, 0x0000, 0x0001, 0x0002, 0x0003, 0x0004] := by decide
/-- D1.5. -/
theorem test_accwrl : seen (exec (.accwrl 3) { State.reset with din := { a := 0x000123456789 } })
    (fun t => (t.ctx.accH[3], t.ctx.accM[3], t.ctx.accL[3])) = some (0x0001, 0x2345, 0x6789) := by decide
/-- An instance with accumulator lane 3 written (D1.5). -/
def acc3 : State :=
  { State.reset with ctx := State.reset.ctx.writeAccLanes (lanes fun i => if i = 3 then some 0x000123456789 else none) }
/-- D1.6. -/
theorem test_accrdl : seen (exec (.accrdl 3) acc3) (fun t => t.dout.a) = some (some 0x000123456789) := by decide
/-- D1.4. -/
theorem test_accrdl_unwritten :
    seen (exec (.accrdl 2) acc3) (fun t => t.fault) = some (some (.readBeforeWrite (.acc 2))) := by decide
/-- D1.11. -/
theorem test_accrd_unwritten :
    seen (exec .accrd acc3) (fun t => t.fault) = some (some (.readBeforeWrite (.acc 0))) := by decide
set_option exponentiation.threshold 400 in
/-- R102's example. -/
theorem test_accrd : seen (exec .accrd { State.reset with ctx :=
      (State.reset.ctx.writeAccLanes (Vector.replicate 8 (some 0x000123456789))) }) (fun t => t.dout.acc) =
    some (some 0x000100010001000100010001000100012345234523452345234523452345234567896789678967896789678967896789) := by
  decide
set_option exponentiation.threshold 400 in
/-- R103 and R75: H is bits 383:256, and lane 0 of H is its top 16 bits. -/
theorem test_accwr : seen (exec .accwr { State.reset with din :=
      { acc := 0xAAAA00000000000000000000000000000000000000000000000000000000BBBBCCCC0000000000000000000000000000 } })
    (fun t => (t.ctx.accH[0], t.ctx.accM[7], t.ctx.accL[0], t.ctx.wacc[5])) = some (0xAAAA, 0xBBBB, 0xCCCC, true) := by
  decide

/-! ## Elementwise -/

/-- D2.1. -/
theorem test_vcopy : seen (exec (.vcopy 2 1) (with1 1 #v[1, 2, 3, 4, 5, 6, 7, 8])) (fun t => t.ctx.vr[2]) =
    some #v[1, 2, 3, 4, 5, 6, 7, 8] := by decide
/-- D2.2. -/
theorem test_vcopy_unwritten :
    seen (exec (.vcopy 2 9) .reset) (fun t => t.fault) = some (some (.readBeforeWrite (.vr 9 0))) := by decide
/-- D2.15. -/
theorem test_vwipe : seen (exec (.vwipe 4) .reset) (fun t => (t.ctx.vr[4], t.fault)) =
    some (#v[0, 0, 0, 0, 0, 0, 0, 0], none) := by decide
/-- D2.16. -/
theorem test_vfill : seen (exec (.vfill 4) .reset) (fun t => (t.ctx.vr[4], t.fault)) =
    some (Vector.replicate 8 0xFFFF, none) := by decide
/-- D2.3. -/
theorem test_vand : seen (exec (.vand 1 2) (with12 a1 b1)) (fun t => t.ctx.vr[1]) =
    some #v[0x000F, 0xF000, 0x0000, 0x0000, 0x1234, 0x8000, 0x0000, 0xAAAA] := by decide
/-- D2.17: lane 5 of `VR[1]` unwritten. -/
theorem test_vand_unwritten : seen (exec (.vand 1 2) { with12 a1 b1 with ctx := { (with12 a1 b1).ctx with
      wvr := (with12 a1 b1).ctx.wvr.set 1 #v[true, true, true, true, true, false, true, true] } })
    (fun t => t.fault) = some (some (.readBeforeWrite (.vr 1 5))) := by decide
/-- D2.4. -/
theorem test_vor : seen (exec (.vor 1 2) (with12 a1 b1)) (fun t => t.ctx.vr[1]) =
    some #v[0x0FFF, 0xFFF0, 0xFFFF, 0xFFFF, 0xFFFF, 0x8001, 0xFFFF, 0xAAAA] := by decide
/-- D2.5. -/
theorem test_vxor : seen (exec (.vxor 1 2) (with12 a1 b1)) (fun t => t.ctx.vr[1]) =
    some #v[0x0FF0, 0x0FF0, 0xFFFF, 0xFFFF, 0xEDCB, 0x0001, 0xFFFF, 0x0000] := by decide
/-- D2.11. -/
theorem test_vxor_same : seen (exec (.vxor 1 1) (with1 1 a1)) (fun t => t.ctx.vr[1]) =
    some #v[0, 0, 0, 0, 0, 0, 0, 0] := by decide
/-- D2.6. -/
theorem test_vcmplt : seen (exec (.vcmplt 1 2) (with12 a2 b2)) (fun t => t.ctx.vr[1]) =
    some #v[0xFFFF, 0, 0xFFFF, 0, 0, 0, 0, 0xFFFF] := by decide
/-- S3, D2.8. -/
theorem test_vcmpeq : seen (exec (.vcmpeq 1 2) (with12 #v[5, 0xFFFB, 0, 1, 2, 3, 4, 5] #v[5, 5, 0, 0, 0, 0, 0, 0]))
    (fun t => t.ctx.vr[1]) = some #v[0xFFFF, 0, 0xFFFF, 0, 0, 0, 0, 0] := by decide
/-- D2.9. -/
theorem test_vcmpgt : seen (exec (.vcmpgt 1 2) (with12 a2 b2)) (fun t => t.ctx.vr[1]) =
    some #v[0, 0xFFFF, 0, 0xFFFF, 0, 0, 0, 0] := by decide

/-! ## Shuffle -/

/-- D3.17: `rd = rs`. -/
theorem test_vshuf_same : seen (exec (.vshuf 1 1 3) (with1 1 src)) (fun t => t.ctx.vr[1]) =
    some #v[0x1001, 0x1001, 0x1003, 0x1003, 0x1005, 0x1005, 0x1007, 0x1007] := by decide
/-- D3.19: only lane 0 written, code 9 reads lane 1. -/
theorem test_vshuf_unwritten : seen (exec (.vshuf 2 1 9) { with1 1 src with ctx := { (with1 1 src).ctx with
      wvr := (with1 1 src).ctx.wvr.set 1 #v[true, false, false, false, false, false, false, false] } })
    (fun t => t.fault) = some (some (.readBeforeWrite (.vr 1 1))) := by decide
/-- D3.5 and D3.12. -/
theorem test_shuffle_0h : shuffle Config.defaultElementRows src 4 =
    #v[0x1000, 0x1000, 0x1000, 0x1000, 0x1004, 0x1004, 0x1004, 0x1004] := by decide
theorem test_shuffle_3 : shuffle Config.defaultElementRows src 11 = Vector.replicate 8 0x1003 := by decide

/-! ## Flags -/

def flagsSet : State :=
  { State.reset with ctx := ((State.reset.ctx.writeVco 0xA55A).writeVcc 0x00F0).writeVce 0xA1 }
/-- D4.1. -/
theorem test_getvco : seen (exec .getvco flagsSet) (fun t => t.dout.p) = some (some 0xA55A) := by decide
theorem test_setvco : seen (exec .setvco { State.reset with din := { p := 0xA55A } }) (fun t => t.ctx.vco) =
    some 0xA55A := by decide
/-- D4.9: the LT bits are still unwritten. -/
theorem test_getvcc_unwritten : seen (exec .getvcc { State.reset with ctx := State.reset.ctx.writeFlagByte .ge 0x81 })
    (fun t => t.fault) = some (some (.readBeforeWrite (.vcc 0))) := by decide
theorem test_setvcc : seen (exec .setvcc { State.reset with din := { p := 0x00F0 } }) (fun t => t.ctx.vcc) =
    some 0x00F0 := by decide
/-- D4.3. -/
theorem test_getvce : seen (exec .getvce flagsSet) (fun t => t.dout.p) = some (some 0x00A1) := by decide
theorem test_setvce : seen (exec .setvce { State.reset with din := { p := 0xFFA1 } }) (fun t => t.ctx.vce) =
    some 0xA1 := by decide
/-- D4.4 to D4.8. -/
theorem test_xrd_co : seen (exec (.xrdCo 3) flagsSet) (fun t => t.ctx.vr[3]) =
    some #v[0, 0xFFFF, 0, 0xFFFF, 0xFFFF, 0, 0xFFFF, 0] := by decide
theorem test_xrd_ne : seen (exec (.xrdNe 3) flagsSet) (fun t => t.ctx.vr[3]) =
    some #v[0xFFFF, 0, 0xFFFF, 0, 0, 0xFFFF, 0, 0xFFFF] := by decide
theorem test_xrd_lt : seen (exec (.xrdLt 3) flagsSet) (fun t => t.ctx.vr[3]) =
    some #v[0, 0, 0, 0, 0xFFFF, 0xFFFF, 0xFFFF, 0xFFFF] := by decide
theorem test_xrd_ge : seen (exec (.xrdGe 3) flagsSet) (fun t => t.ctx.vr[3]) =
    some #v[0, 0, 0, 0, 0, 0, 0, 0] := by decide
theorem test_xrd_ce : seen (exec (.xrdCe 3) flagsSet) (fun t => t.ctx.vr[3]) =
    some #v[0xFFFF, 0, 0, 0, 0, 0xFFFF, 0, 0xFFFF] := by decide
/-- R162, R163's examples; the other byte keeps its bits. -/
theorem test_xwr_co : seen (exec (.xwrCo 5) { flagsSet with ctx :=
      (flagsSet.ctx.writeVr 5 #v[0xFFFF, 0xFFFF, 0, 0, 0, 0, 0, 0]) }) (fun t => t.ctx.vco) = some 0xA503 := by decide
theorem test_xwr_ne : seen (exec (.xwrNe 5) { flagsSet with ctx :=
      (flagsSet.ctx.writeVr 5 #v[0xFFFF, 0xFFFF, 0, 0, 0, 0, 0, 0]) }) (fun t => t.ctx.vco) = some 0x035A := by decide
theorem test_xwr_lt : seen (exec (.xwrLt 7) { flagsSet with ctx := flagsSet.ctx.writeVr 7 mask7 })
    (fun t => t.ctx.vcc) = some 0x0081 := by decide
theorem test_xwr_ge : seen (exec (.xwrGe 7) { flagsSet with ctx := flagsSet.ctx.writeVr 7 mask7 })
    (fun t => t.ctx.vcc) = some 0x81F0 := by decide
/-- R166's example. -/
theorem test_xwr_ce : seen (exec (.xwrCe 3) (with1 3 #v[0xFFFF, 0, 0, 0, 0, 0xFFFF, 0, 0xFFFF]))
    (fun t => t.ctx.vce) = some 0xA1 := by decide
/-- D4.12. -/
theorem test_xwr_non_canonical : seen (exec (.xwrCo 5) (with1 5 #v[1, 0, 0, 0, 0, 0, 0, 0]))
    (fun t => (t.fault, t.ctx.wvco[0])) = some (some (.nonCanonicalFlagLane 5 0), false) := by decide

/-! ## Dispatch, with the test handlers of R188 -/

/-- The lanes of a vector, if all are written. -/
def allLanes (m : MaybeVec) : Option Vec :=
  if m.toList.all Option.isSome then some (lanes fun i => m[i].getD 0) else none

/-- `H_and` of R188. -/
def hAnd : Handler := fun i =>
  match allLanes i.raw, allLanes i.shuffled with
  | some a, some b => .ok { result := lanes fun k => a[k] &&& b[k], acc := Vector.replicate 8 none,
                            vco := none, vcc := none, vce := none }
  | _, _ => .fault .readBeforeWrite

/-- `H_lt` of R188. -/
def hLt : Handler := fun i =>
  match allLanes i.raw, allLanes i.shuffled with
  | some a, some b => .ok { result := lanes fun k => maskLt a[k] b[k], acc := Vector.replicate 8 none,
                            vco := some 0x0000, vcc := some (0#8 ++ packMask (lanes fun k => maskLt a[k] b[k])),
                            vce := some 0x00 }
  | _, _ => .fault .readBeforeWrite

/-- `H_accset` of R188. -/
def hAccset : Handler := fun i =>
  match allLanes i.raw with
  | some a => .ok { result := a, acc := lanes fun k => some (a[k].signExtend 48), vco := none, vcc := none, vce := none }
  | none => .fault .readBeforeWrite

/-- `s` with slot `k` holding a handler that answers as `h` does to the instruction word `iw` in `s`. -/
def withHandler (s : State) (k : SlotIndex) (h : Handler) (iw : Word32) : State :=
  { s with
    cfg := { s.cfg with handlers := s.cfg.handlers.set k.val (.given { cases := [], otherwise := h (handlerIn s.cfg iw s.ctx) }) }
    din := { s.din with i := iw } }

/-- `s` with slot `k` empty. -/
def withoutHandler (s : State) (k : SlotIndex) (iw : Word32) : State :=
  { s with cfg := { s.cfg with handlers := s.cfg.handlers.set k.val .unimplemented }, din := { s.din with i := iw } }

def d5 : State := with12 (Vector.replicate 8 0x00FF) #v[0x0F0F, 0x1111, 0, 0, 0, 0, 0, 0xFFFF]

/-- D5.2. -/
theorem test_dispatch_shuffled : seen (exec .dispatch (withHandler d5 0x28 hAnd 0x4A4208E8)) (fun t => t.ctx.vr[3]) =
    some #v[0x000F, 0x000F, 0, 0, 0, 0, 0, 0] := by decide
/-- D5.3. -/
theorem test_dispatch_unimplemented : seen (exec .dispatch (withoutHandler d5 0x12 0x4A0208D2))
    (fun t => (t.fault, t.ctx.wvr[3])) =
    some (some (.unimplementedOpcode 0x12 0x4A0208D2), Vector.replicate 8 false) := by decide
/-- D5.1, by the slot's own instruction. -/
theorem test_slot_vand : seen (exec (.iwVand ⟨0x25, 0, 2, 1, 3⟩) (withHandler d5 0x28 hAnd 0x4A0208E8))
    (fun t => t.ctx.vr[3]) = some #v[0x000F, 0x0011, 0, 0, 0, 0, 0, 0x00FF] := by decide
/-- D5.4. -/
theorem test_slot_handler_fault : seen (exec (.iwVand ⟨0x25, 0, 2, 1, 3⟩)
      (withHandler (with1 1 src) 0x28 hAnd 0x4A0208E8)) (fun t => (t.fault, t.ctx.wvr[3])) =
    some (some (.handlerFault 0x28 .readBeforeWrite), Vector.replicate 8 false) := by decide
/-- P4 step 3. -/
theorem test_slot_vlt : seen (exec (.iwVlt ⟨0x25, 8, 2, 1, 3⟩) (withHandler
      (with12 #v[0x0001, 0xFFFF, 0x7FFF, 0x8000, 0x0000, 0x0002, 0x0003, 0x0004] (Vector.replicate 8 0)) 0x20 hLt 0x4B0208E0))
    (fun t => (t.ctx.vr[3], t.ctx.vco, t.ctx.vcc, t.ctx.vce)) =
    some (#v[0, 0xFFFF, 0, 0xFFFF, 0, 0, 0, 0], 0x0000, 0x000A, 0x00) := by decide
/-- D5.5. -/
theorem test_slot_vmadm : seen (exec (.iwVmadm ⟨0x25, 0, 0, 1, 4⟩) (withHandler
      (with1 1 #v[1, 0xFFFF, 0x7FFF, 0x8000, 0, 2, 3, 4]) 0x0D hAccset 0x4A00090D))
    (fun t => (t.ctx.accH, t.ctx.accM, t.ctx.accL)) =
    some (#v[0, 0xFFFF, 0, 0xFFFF, 0, 0, 0, 0], #v[0, 0xFFFF, 0, 0xFFFF, 0, 0, 0, 0],
      #v[1, 0xFFFF, 0x7FFF, 0x8000, 0, 2, 3, 4]) := by decide

/-! ## Reset, step, image, text -/

/-- A fresh instance under `ZERO`: every element written. -/
def zeroed : State := State.created { Config.default with resetPolicy := .zero }

/-- D6.1. -/
theorem test_reset_unwritten : seen (exec .reset (with1 1 src)) (fun t => t.ctx.wvr[1]) =
    some (Vector.replicate 8 false) := by decide
/-- D6.2. -/
theorem test_reset_zero : seen (exec .reset { zeroed with ctx := zeroed.ctx.writeVcc 0xFFFF })
    (fun t => (t.ctx.vcc, t.ctx.wvcc)) = some (0x0000, Vector.replicate 16 true) := by decide
/-- D6.7. -/
theorem test_reset_keeps_fault : seen (exec .reset (State.reset.raise (.readBeforeWrite (.vr 1 0))))
    (fun t => t.fault) = some (some (.readBeforeWrite (.vr 1 0))) := by decide

def request (w : Word32) : Request := { driver := .own, word := w, din := {} }

set_option exponentiation.threshold 400 in
theorem test_step_runs : seen (step { State.reset with pending := [request 0x03200000, request 0x02200000] })
    (fun t => (t.ctx.vr[4], t.pending)) = some (Vector.replicate 8 0xFFFF, [request 0x02200000]) := by decide
/-- D6.5. -/
theorem test_step_reserved : seen (step { State.reset with pending := [request 0x13000000] }) (fun t => t.refused) =
    some (some (.reservedCommand 0x13000000)) := by decide
/-- R205: `SharedContext` first. -/
theorem test_step_shared : seen (step { State.reset with pending := [{ request 0x13000000 with driver := .other }] })
    (fun t => t.refused) = some (some .sharedContext) := by decide
theorem test_fetch_word_command : seen (step (State.reset.withFetchWord 32 0x03200000)) (fun t => t.ctx.vr[4]) =
    some (Vector.replicate 8 0xFFFF) := by decide
theorem test_fetch_word_slot : seen (step ((withHandler d5 0x28 hAnd 0x4A0208E8).withFetchWord 32 0x4A0208E8))
    (fun t => t.ctx.vr[3]) = some #v[0x000F, 0x0011, 0, 0, 0, 0, 0, 0x00FF] := by decide
/-- R53: offset 0 + 16r + 2i, high byte first. -/
theorem test_image_lane : imageByte (with1 3 src).ctx (16 * 3 + 2 * 5) = 0x10 ∧
    imageByte (with1 3 src).ctx (16 * 3 + 2 * 5 + 1) = 0x05 := by decide
theorem test_image_flags : imageByte flagsSet.ctx 560 = 0xA5 ∧ imageByte flagsSet.ctx 564 = 0xA1 := by decide
set_option exponentiation.threshold 400 in
/-- R53, with the values of R152's example: a read gives its bytes and changes only the ports. -/
theorem test_save_read : (match flagsSet.readBytes [(.getvce, fun o => o.p.map (bytesOf 1))] with
    | .next (t, bytes) => decide (bytes = some [0xA1] ∧ t = { flagsSet with dout := { p := some 0x00A1 } })
    | _ => false) = true := by decide
/-- R53: with an element unwritten the save faults `ReadBeforeWrite`, and the fault is recorded (R204). -/
theorem test_save_faults : (match State.reset.saveImage with
    | .next (t, img) => decide (img = none ∧ t.fault = some (.readBeforeWrite (.vr 0 0)) ∧
        t.dout.report = some (.fault (.readBeforeWrite (.vr 0 0))))
    | _ => false) = true := by decide
/-- R83, R84. -/
theorem test_text_vshuf : Machine.Instr.text (.vshuf 2 1 10) = "VSHUF $v2, $v1[10]" := by decide
theorem test_text_slot : Machine.Instr.text (.iwVand ⟨0x25, 2, 2, 1, 3⟩) = "vand $v3, $v1, $v2[0q]" := by decide

/-! ## Witnesses: states and operands that meet the hypotheses of the statements -/

/-- A fresh instance whose only command is the word `w`. -/
def given (w : Word32) : State := { State.reset with pending := [request w] }

/-- Register 1 of `zeroed` with one lane unwritten. -/
def holeAt (j : Lane) : State :=
  { zeroed with ctx := { zeroed.ctx with wvr := zeroed.ctx.wvr.set 1 (lanes fun i => decide (i ≠ j)) } }

theorem allWritten_zeroed : zeroed.ctx.AllWritten := by
  intro el
  cases el <;> simp [Context.written, zeroed, State.created, Context.created]

theorem witness_EncodeOfDecode : decodeCommand 0x01104000 = .ok (.vcopy 2 1) := by decide

theorem witness_RefusalOfCommandWords :
    ((0x11, 0x0007C000) : BitVec 8 × Word32) ∈ usedFields ∧ (0x11 : BitVec 8) = (0x1107C000 : Word32).extractLsb' 24 8 ∧
    (0x1107C000 : Word32) &&& ~~~(0xFF000000 ||| 0x0007C000) = 0 ∧
    (0x11 : BitVec 8) = (0x11080000 : Word32).extractLsb' 24 8 ∧
    (0x11080000 : Word32) &&& ~~~(0xFF000000 ||| 0x0007C000) ≠ 0 ∧
    (∀ p ∈ usedFields, p.1 ≠ (0x13000000 : Word32).extractLsb' 24 8) :=
  ⟨by simp [usedFields], by decide, by decide, by decide, by decide, by simp [usedFields]⟩

theorem witness_StepRunsDecodedCommand :
    (given 0x02200000).pending = request 0x02200000 :: [] ∧ (request 0x02200000).driver = .own ∧
    decodeCommand (request 0x02200000).word = .ok (.vwipe 4) := by
  refine ⟨by simp only [given], by simp only [request], by decide⟩

theorem witness_RefusedCommandWritesNothing :
    (given 0x13000000).pending = request 0x13000000 :: [] ∧
    ((request 0x13000000).driver = .own ∧ decodeCommand (request 0x13000000).word = .error (.reservedCommand 0x13000000)) ∧
    ({ request 0x13000000 with driver := .other } : Request).driver = .other := ⟨rfl, ⟨rfl, by decide⟩, rfl⟩

theorem witness_CommandsRunInIssueOrder :
    ∃ t, State.runToEnd { State.reset with pending := [request 0x7F000000] } = .next t := by
  have h : step { State.reset with pending := [request 0x7F000000] } = .next State.reset := by rfl
  exact ⟨State.reset, by
    show (match step { State.reset with pending := [request 0x7F000000] } with
      | .next t => Host.Core.run Sys2Proof.core 0 t
      | .fault r => .fault r
      | .refused r => .refused r) = _
    rw [h]
    rfl⟩

theorem witness_TableWordRunsItsInstruction :
    decodeTableWord 32 0x02200000 = some (.vwipe 4) ∧ decodeTableWord 32 0x0000003F = some (.iwVnull ⟨0, 0, 0, 0, 0⟩) := by
  decide

theorem witness_RecordsAreSticky :
    ∃ s t : State, step s = .next t ∧ s.fault.isSome = true ∧ s.refused.isSome = true :=
  ⟨{ given 0x7F000000 with fault := some (.readBeforeWrite (.acc 0)), refused := some .sharedContext }, _, rfl, rfl, rfl⟩

theorem witness_ReportsStayOnRecord :
    (∃ s t : State, step s = .next t ∧ ∃ f, t.dout.report = some (.fault f)) ∧
    (∃ s t : State, step s = .next t ∧ ∃ q, t.dout.report = some (.refusal q)) :=
  ⟨⟨given 0x20000000, _, rfl, _, rfl⟩, ⟨given 0x00000000, _, rfl, _, rfl⟩⟩

theorem witness_ConfigurationNeverChanges : ∃ s t : State, step s = .next t := ⟨given 0x7F000000, _, rfl⟩

theorem witness_ResetRule : State.reset.cfg.resetPolicy = .unwritten ∧ zeroed.cfg.resetPolicy = .zero := ⟨rfl, rfl⟩

theorem witness_ZeroPolicyKeepsAllWritten :
    ∃ s t : State, s.cfg.resetPolicy = .zero ∧ s.ctx.AllWritten ∧ step s = .next t :=
  ⟨{ zeroed with pending := [request 0x7F000000] }, _, rfl, allWritten_zeroed, rfl⟩

theorem witness_ZeroCreationAllWritten : ({ Config.default with resetPolicy := .zero } : Config).resetPolicy = .zero := rfl

theorem witness_AllWrittenNeverReadsBeforeWrite :
    ∃ s t : State, s.ctx.AllWritten ∧ step s = .next t :=
  ⟨{ zeroed with pending := [request 0x40000000] }, _, allWritten_zeroed, rfl⟩

theorem witness_OnlyResetClearsMarks :
    ∃ t, Instr.vcopy 2 1 ≠ .reset ∧ exec (.vcopy 2 1) (with1 1 src) = .next t ∧
      (with1 1 src).ctx.written (.vr 1 7) = true := ⟨_, by decide, rfl, by decide⟩

/-- The reset state and one that differs only in a value under a clear mark. -/
theorem witness_UnwrittenValuesAreUnobservable :
    State.reset.SameView { State.reset with ctx := { State.reset.ctx with vr := State.reset.ctx.vr.set 0 src } } ∧
    State.reset ≠ { State.reset with ctx := { State.reset.ctx with vr := State.reset.ctx.vr.set 0 src } } :=
  ⟨⟨rfl, ⟨by decide, rfl, rfl, rfl, rfl⟩, rfl, rfl, rfl, rfl, rfl⟩, by decide⟩

theorem witness_LowestVr_bounds :
    LowestVr (holeAt 0).ctx 1 0 ∧ LowestVr (holeAt 7).ctx 1 7 ∧ FullVr (holeAt 7).ctx 0 := by decide

theorem witness_VreadRule : FullVr (with1 31 src).ctx 31 ∧ LowestVr State.reset.ctx 31 0 ∧ LowestVr (holeAt 7).ctx 1 7 := by
  decide

theorem witness_AccumulatorReadRule :
    (∀ i : Lane, zeroed.ctx.wacc[i] = true) ∧ LowestClear State.reset.ctx.wacc 0 ∧
    LowestClear { zeroed.ctx with wacc := lanes fun i => decide (i ≠ 7) }.wacc 7 ∧
    acc3.ctx.wacc[(3 : Lane)] = true ∧ acc3.ctx.wacc[(7 : Lane)] = false := by decide

theorem witness_AccumulatorWriters :
    ∃ t, exec (.vcopy 2 1) (with1 1 src) = .next t ∧ isSlot (.vcopy 2 1) = false := ⟨_, rfl, by decide⟩

theorem witness_OtherRegistersUnchanged :
    ∃ t, exec (.vcopy 2 1) (with1 1 src) = .next t ∧ destination (.vcopy 2 1) (with1 1 src) ≠ some 1 :=
  ⟨_, rfl, by decide⟩

theorem witness_ReadsHaveNoSideEffects : isRead (.accrdl 7) = true ∧ isRead (.vread 0) = true ∧ isRead .getvce = true := by
  decide

theorem witness_PortsDrivenOnlyByTheirCommands :
    (∃ t, exec (.vread 1) (with1 1 src) = .next t ∧ t.dout.v.isSome = true) ∧
    (∃ t, exec .getvco flagsSet = .next t ∧ t.dout.p.isSome = true) ∧
    (∃ t, exec (.accrdl 3) acc3 = .next t ∧ t.dout.a.isSome = true) ∧
    (∃ t, exec .accrd zeroed = .next t ∧ t.dout.acc.isSome = true) ∧
    (∃ t, exec .dispatch (withoutHandler d5 0x12 0x4A0208D2) = .next t ∧ t.dout.diag.isSome = true) :=
  ⟨⟨_, rfl, rfl⟩, ⟨_, rfl, rfl⟩, ⟨_, rfl, rfl⟩, ⟨_, rfl, rfl⟩, ⟨_, rfl, rfl⟩⟩

theorem witness_CopyWipeFillRule : FullVr (with1 1 src).ctx 1 ∧ LowestVr (holeAt 7).ctx 1 7 := by decide

theorem witness_BitwiseRule :
    FullVr (with12 a1 b1).ctx 1 ∧ FullVr (with12 a1 b1).ctx 2 ∧ LowestVr (holeAt 0).ctx 1 0 ∧
    (FullVr (holeAt 7).ctx 2 ∧ LowestVr (holeAt 7).ctx 1 7) ∧
    ∃ p ∈ [(Instr.vand 1 2, (0x04 : BitVec 8), fun a b : Word16 => a &&& b)], p.1 = .vand 1 2 :=
  ⟨by decide, by decide, by decide, by decide, _, List.mem_singleton.2 rfl, rfl⟩

theorem witness_CompareRule :
    FullVr (with12 a2 b2).ctx 1 ∧ FullVr (with12 a2 b2).ctx 2 ∧ LowestVr (holeAt 0).ctx 1 0 ∧
    (FullVr (holeAt 7).ctx 2 ∧ LowestVr (holeAt 7).ctx 1 7) ∧
    ∃ p ∈ [(Instr.vcmpgt 1 2, (0x09 : BitVec 8), fun a b : Int => decide (a > b))], p.1 = .vcmpgt 1 2 :=
  ⟨by decide, by decide, by decide, by decide, _, List.mem_singleton.2 rfl, rfl⟩

theorem witness_SameRegisterRule : FullVr (with1 1 a2).ctx 1 := by decide

theorem witness_CompareTrichotomy : FullVr (with12 a2 b2).ctx 1 ∧ FullVr (with12 a2 b2).ctx 2 := by decide

/-- The same operands in lane 7 only. -/
theorem witness_LanesAreIndependent :
    FullVr (with12 a2 b2).ctx 1 ∧ FullVr (with12 a2 b2).ctx 2 ∧
    FullVr (with12 (a1.set 7 0xFFFF) (b1.set 7 0x0001)).ctx 1 ∧ FullVr (with12 (a1.set 7 0xFFFF) (b1.set 7 0x0001)).ctx 2 ∧
    (with12 a2 b2).ctx.vr[(1 : VReg)][(7 : Lane)] = (with12 (a1.set 7 0xFFFF) (b1.set 7 0x0001)).ctx.vr[(1 : VReg)][(7 : Lane)] ∧
    (with12 a2 b2).ctx.vr[(2 : VReg)][(7 : Lane)] = (with12 (a1.set 7 0xFFFF) (b1.set 7 0x0001)).ctx.vr[(2 : VReg)][(7 : Lane)] ∧
    Instr.vcmplt 1 2 ∈ elementwise 1 2 := by decide

theorem witness_ElementwiseFrame : Instr.vcopy 2 1 ∈ elementwise 2 1 ∧ Instr.vcmpgt 2 1 ∈ elementwise 2 1 := by decide

/-- Scratch register 3, then a scratch register that is the source. -/
theorem witness_PseudoInstructionsCompute :
    (3 : VReg) ≠ 1 ∧ (2 : VReg) ≠ 1 ∧ FullVr (with12 a2 b2).ctx 1 ∧ FullVr (with12 a2 b2).ctx 2 ∧
    ∃ p ∈ [(Pseudo.vcmpge 1 2 3, fun a b : Int => decide (a ≥ b))], p.1 = .vcmpge 1 2 3 :=
  ⟨by decide, by decide, by decide, by decide, _, List.mem_singleton.2 rfl, rfl⟩

/-- Code 8 reads lane 0 only; code 9 reads lane 1; code 15 reads lane 7. -/
theorem witness_VshufRule :
    (∀ i : Lane, (holeAt 7).ctx.wvr[(1 : VReg)][(elementRow (holeAt 7).cfg.elementRows 8)[i]] = true) ∧
    (holeAt 1).ctx.wvr[(1 : VReg)][(elementRow (holeAt 1).cfg.elementRows 9)[(0 : Lane)]] = false ∧
    ((holeAt 7).ctx.wvr[(1 : VReg)][(elementRow (holeAt 7).cfg.elementRows 0)[(7 : Lane)]] = false ∧
      ∀ i : Lane, i < 7 → (holeAt 7).ctx.wvr[(1 : VReg)][(elementRow (holeAt 7).cfg.elementRows 0)[i]] = true) ∧
    (1 : ElementCode).val < 2 := by decide

theorem witness_PackedReadRule :
    (∀ k : Fin 16, flagsSet.ctx.wvco[k] = true) ∧ (∀ k : Fin 16, flagsSet.ctx.wvcc[k] = true) ∧
    (∀ k : Fin 8, flagsSet.ctx.wvce[k] = true) ∧ LowestClear State.reset.ctx.wvco 0 ∧
    LowestClear (State.reset.ctx.writeFlagByte .co 0).wvco 8 ∧ LowestClear State.reset.ctx.wvcc 0 ∧
    LowestClear (Vector.ofFn fun k : Fin 16 => decide (k ≠ 15)) 15 ∧ LowestClear State.reset.ctx.wvce 0 := by decide

theorem witness_ExpandedReadRule :
    (∀ k : Lane, flagsSet.ctx.wvco[8 + k.val] = true) ∧ (∀ k : Lane, flagsSet.ctx.wvce[k.val] = true) ∧
    State.reset.ctx.wvcc[0] = false ∧
    ((State.reset.ctx.writeFlagByte .co 0).wvco[8] = false ∧ ∀ l : Lane, (State.reset.ctx.writeFlagByte .co 0).wvco[l.val] = true) :=
  by decide

theorem witness_ExpandedWriteRule :
    FullVr (with1 7 mask7).ctx 7 ∧ Canonical (with1 7 mask7).ctx.vr[(7 : VReg)] ∧ LowestVr State.reset.ctx 7 0 ∧
    ((with1 1 a1).ctx.vr[(1 : VReg)][(0 : Lane)] ≠ 0xFFFF ∧ (with1 1 a1).ctx.vr[(1 : VReg)][(0 : Lane)] ≠ 0x0000) ∧
    ((with1 1 (mask7.set 7 1)).ctx.vr[(1 : VReg)][(7 : Lane)] ≠ 0xFFFF ∧
      ∀ k : Lane, k < 7 → (with1 1 (mask7.set 7 1)).ctx.vr[(1 : VReg)][k] = 0xFFFF ∨
        (with1 1 (mask7.set 7 1)).ctx.vr[(1 : VReg)][k] = 0x0000) := by decide

theorem witness_ExpandedRoundTrip :
    FullVr (with1 7 mask7).ctx 7 ∧ Canonical (with1 7 mask7).ctx.vr[(7 : VReg)] ∧ (3 : VReg) ≠ 4 := by decide

theorem witness_FlagWriters :
    ∃ t, exec (.vcmplt 1 2) (with12 a2 b2) = .next t ∧ isSlot (.vcmplt 1 2) = false := ⟨_, rfl, by decide⟩

theorem witness_DispatchRule :
    handlerAt (withoutHandler d5 0x12 0x4A0208D2).cfg (slotOfWord (withoutHandler d5 0x12 0x4A0208D2).din.i) = none ∧
    (∃ h, handlerAt (withHandler (with1 1 src) 0x28 hAnd 0x4A0208E8).cfg (slotOfWord 0x4A0208E8) = some h ∧
      h (handlerIn (withHandler (with1 1 src) 0x28 hAnd 0x4A0208E8).cfg 0x4A0208E8 (with1 1 src).ctx) =
        .fault .readBeforeWrite) ∧
    (∃ h out, handlerAt (withHandler d5 0x28 hAnd 0x4A0208E8).cfg (slotOfWord 0x4A0208E8) = some h ∧
      h (handlerIn (withHandler d5 0x28 hAnd 0x4A0208E8).cfg 0x4A0208E8 d5.ctx) = .ok out) :=
  ⟨rfl, ⟨_, rfl, rfl⟩, ⟨_, _, rfl, rfl⟩⟩

/-- Slots 0 and 63, with no handler and with one. -/
theorem witness_SlotInstructionRule :
    handlerAt (withoutHandler d5 0 0).cfg 0 = none ∧
    (∃ h out, handlerAt (withHandler d5 63 hAnd 0x4A0208FF).cfg 63 = some h ∧
      h (handlerIn (withHandler d5 63 hAnd 0x4A0208FF).cfg (iwWord 63 ⟨0x25, 0, 2, 1, 3⟩) d5.ctx) = .ok out) ∧
    (∃ h reason, handlerAt (withHandler State.reset 0 hAnd 0x4A0208C0).cfg 0 = some h ∧
      h (handlerIn (withHandler State.reset 0 hAnd 0x4A0208C0).cfg (iwWord 0 ⟨0x25, 0, 2, 1, 3⟩) State.reset.ctx) =
        .fault reason) :=
  ⟨rfl, ⟨_, _, rfl, rfl⟩, ⟨_, _, rfl, rfl⟩⟩

theorem witness_HighBitsNotExamined :
    (0x4A0208E8 : Word32).extractLsb' 0 25 = (0x000208E8 : Word32).extractLsb' 0 25 := by decide

/-- A handler that answers always the same reads nothing. -/
theorem witness_DispatchIgnoresUnwritten :
    ∃ (s u : State) (h : Handler) (out : HandlerOut),
      handlerAt s.cfg (slotOfWord s.din.i) = some h ∧ Handler.ReadsOnlyWritten h ∧ u.cfg = s.cfg ∧ u.din = s.din ∧
      HandlerIn.Fills (handlerIn s.cfg s.din.i s.ctx) (handlerIn u.cfg u.din.i u.ctx) ∧
      h (handlerIn s.cfg s.din.i s.ctx) = .ok out := by
  refine ⟨withHandler d5 0x28 hAnd 0x4A0208E8,
    { withHandler d5 0x28 hAnd 0x4A0208E8 with ctx := (withHandler d5 0x28 hAnd 0x4A0208E8).ctx.writeVco 0xFFFF },
    _, _, rfl, ?_, rfl, rfl, ?_, rfl⟩
  · intro a b out _ h
    exact h
  · exact ⟨rfl, fun _ => .inr rfl, fun _ => .inr rfl, fun _ => .inr rfl, fun _ => .inr rfl,
      fun k => .inl (by simp [handlerIn, Context.maybeVco, withHandler, d5]; decide +revert), fun _ => .inr rfl, fun _ => .inr rfl⟩

theorem witness_ImageLayout : ∃ img, zeroed.ctx.takeImage = .ok img := by
  unfold Context.takeImage
  rw [require_of_written fun el _ => allWritten_zeroed el]
  exact ⟨_, rfl⟩

theorem witness_SaveImageRule : (∃ img, zeroed.ctx.takeImage = .ok img) ∧ ∃ f, State.reset.ctx.takeImage = .error f :=
  ⟨witness_ImageLayout, _, rfl⟩

/-- The commands in the order they are listed, and in the opposite order. -/
theorem witness_ImageRestoresInAnyOrder (img : Image) :
    ({ State.reset with pending := restoreCommands img } : State).pending.Perm (restoreCommands img) ∧
    ({ State.reset with pending := (restoreCommands img).reverse } : State).pending.Perm (restoreCommands img) :=
  ⟨List.Perm.refl _, List.reverse_perm _⟩

end Sys2Proof.Tests
end

section
/-! Register-file and accumulator access (spec/40_store_access.md R100-R105): the outcome of each command, said once,
then the four statements of the family. -/
namespace Sys2Proof.Machine

/-- A command word built from fields decodes by its row of the operation-code map (R71-R73), when the fields the row
does not use are zero. -/
theorem decodeCommand_cmdWord {op : BitVec 8} {rd rs : VReg} {e : ElementCode} {lane : Lane} (row : CmdRow)
    (hrow : commandTable.find? (fun r => r.op == op) = some row)
    (hzero : row.unusedZero ⟨op, rd, rs, e, lane, 0⟩ = true) :
    decodeCommand (cmdWord op rd rs e lane) = .ok (row.make ⟨op, rd, rs, e, lane, 0⟩) := by
  unfold decodeCommand
  simp only [cmdFields_cmdWord, hrow, hzero, if_true]

/-! Guarded reads of the accumulator (R39, R102, R104). -/

theorem require_acc_ok {c : Context} (h : ∀ i : Lane, c.wacc[i] = true) : c.require accElements = .ok () :=
  require_map_ok c .acc h

theorem require_acc_first {c : Context} {j : Lane} (hlow : ∀ k : Lane, k < j → c.wacc[k] = true)
    (hj : c.wacc[j] = false) : c.require accElements = .error (.readBeforeWrite (.acc j)) :=
  require_first_map c .acc j hlow hj

theorem require_single_ok {c : Context} {el : Element} (h : c.written el = true) : c.require [el] = .ok () :=
  require_of_written (by simpa using h)

theorem require_single_error {c : Context} {el : Element} (h : c.written el = false) :
    c.require [el] = .error (.readBeforeWrite el) :=
  require_first c [] [] el (by simp) h

/-! What each command does, on the outcome of its guarded read where it has one. -/

theorem exec_vread_of_ok {rs : VReg} {s : State} {v : Vec} (h : s.ctx.readVr rs = .ok v) :
    exec (.vread rs) s = .next { s with dout := { v := some (vecBits v) } } := by
  simp only [exec, execVread, h]
  rfl

theorem exec_vread_of_error {rs : VReg} {s : State} {f : CommandFault} (h : s.ctx.readVr rs = .error f) :
    exec (.vread rs) s = .next (s.raise f) := by
  simp only [exec, execVread, h]
  rfl

theorem exec_accrd_of_ok {s : State} (h : s.ctx.require accElements = .ok ()) :
    exec .accrd s = .next { s with dout := { acc := some (accPort s.ctx.accH s.ctx.accM s.ctx.accL) } } := by
  simp only [exec, execAccrd, h]
  rfl

theorem exec_accrd_of_error {s : State} {f : CommandFault} (h : s.ctx.require accElements = .error f) :
    exec .accrd s = .next (s.raise f) := by
  simp only [exec, execAccrd, h]
  rfl

theorem exec_accrdl_of_ok {lane : Lane} {s : State} (h : s.ctx.require [.acc lane] = .ok ()) :
    exec (.accrdl lane) s = .next { s with dout := { a := some (s.ctx.accLane lane) } } := by
  simp only [exec, execAccrdl, h]
  rfl

theorem exec_accrdl_of_error {lane : Lane} {s : State} {f : CommandFault}
    (h : s.ctx.require [.acc lane] = .error f) : exec (.accrdl lane) s = .next (s.raise f) := by
  simp only [exec, execAccrdl, h]
  rfl

theorem exec_vwrite (rd : VReg) (s : State) :
    exec (.vwrite rd) s = .next { s with ctx := s.ctx.writeVr rd (bitsVec s.din.v), dout := {} } := rfl

theorem exec_accwr (s : State) :
    exec .accwr s = .next { s with ctx := s.ctx.writeAccLanes (accOfPort s.din.acc), dout := {} } := rfl

theorem exec_accwrl (lane : Lane) (s : State) :
    exec (.accwrl lane) s = .next
      { s with ctx := s.ctx.writeAccLanes (lanes fun i => if i = lane then some s.din.a else none), dout := {} } := rfl

/-! Port placement (R52, R75). -/

@[simp] theorem bitsVec_getElem (x : BitVec 128) (k : Nat) (h : k < 8) :
    (bitsVec x)[k] = x.extractLsb' (112 - 16 * k) 16 := by
  simp [bitsVec]

/-- A field of a field is a field of the whole word. -/
theorem extractLsb'_extractLsb' {w start len start' len' : Nat} (x : BitVec w) (h : start' + len' ≤ len) :
    (x.extractLsb' start len).extractLsb' start' len' = x.extractLsb' (start + start') len' := by
  apply BitVec.eq_of_getLsbD_eq
  intro j hj
  have hin : start' + j < len := by omega
  simp only [BitVec.getLsbD_extractLsb', hj, hin, decide_true, Bool.true_and, Nat.add_assoc]

/-- The accumulator lane presented on `DIN_ACC` (R103): H bits 383:256, M bits 255:128, L bits 127:0. -/
theorem accOfPort_getElem (x : BitVec 384) (k : Nat) (h : k < 8) :
    (accOfPort x)[k] = some (accWord (x.extractLsb' (256 + (112 - 16 * k)) 16)
      (x.extractLsb' (128 + (112 - 16 * k)) 16) (x.extractLsb' (112 - 16 * k) 16)) := by
  simp (disch := omega) [accOfPort, extractLsb'_extractLsb']

end Sys2Proof.Machine

namespace Sys2Proof.Claims
open Sys2Proof.Machine

/-- Settles O24: the register read succeeds on a full register and else faults on its lowest unwritten lane. -/
theorem vreadRule : Obligations.VreadRule := by
  unfold Obligations.VreadRule
  intro rs s
  refine ⟨decodeCommand_cmdWord { op := 0x11, usesRs := true, make := fun f => .vread f.rs } rfl rfl, ?_, ?_⟩
  · intro hfull
    exact exec_vread_of_ok (readVr_ok hfull)
  · rintro j ⟨hj, hlow⟩
    exact exec_vread_of_error (readVr_first hlow hj)

/-- Settles O25: VWRITE writes the vector presented on `DIN_V`. -/
theorem vwriteRule : Obligations.VwriteRule := by
  unfold Obligations.VwriteRule
  intro rd s
  refine ⟨decodeCommand_cmdWord { op := 0x12, usesRd := true, make := fun f => .vwrite f.rd } rfl rfl,
    bitsVec s.din.v, ?_, exec_vwrite rd s⟩
  intro i
  exact bitsVec_getElem s.din.v i i.isLt

/-- Settles O26: each accumulator read succeeds on written lanes and else faults on the lowest unwritten one it
needs. -/
theorem accumulatorReadRule : Obligations.AccumulatorReadRule := by
  unfold Obligations.AccumulatorReadRule
  intro lane s
  refine ⟨rfl, decodeCommand_cmdWord { op := 0x42, usesLane := true, make := fun f => .accrdl f.lane } rfl rfl,
    ?_, ?_, ?_, ?_⟩
  · intro hfull
    exact exec_accrd_of_ok (require_acc_ok hfull)
  · rintro j ⟨hj, hlow⟩
    exact exec_accrd_of_error (require_acc_first hlow hj)
  · intro hw
    exact exec_accrdl_of_ok (require_single_ok hw)
  · intro hw
    exact exec_accrdl_of_error (require_single_error hw)

/-- Settles O27: ACCWR writes every lane from its part of `DIN_ACC`, ACCWRL one lane from `DIN_A`, each lane's slices
and mark together. -/
theorem accumulatorWriteRule : Obligations.AccumulatorWriteRule := by
  unfold Obligations.AccumulatorWriteRule
  intro lane s
  refine ⟨rfl, decodeCommand_cmdWord { op := 0x43, usesLane := true, make := fun f => .accwrl f.lane } rfl rfl,
    ⟨_, exec_accwr s, rfl, ?_⟩, ⟨_, exec_accwrl lane s, rfl, ?_⟩⟩
  · intro i
    simp [accOfPort_getElem]
  · intro i
    by_cases hi : i = lane
    · simp [hi, sliceH, sliceM, sliceL]
    · simp [hi]

end Sys2Proof.Claims
end

section
/-! Elementwise operations (spec/41_elementwise.md R121-R133): the six two-operand commands are one rule over their lane
function, and that rule gives the six statements of the family. -/
namespace Sys2Proof.Machine
open Sys2Proof.Claims

/-- The word of a command that uses `rd` and `rs` and no other field decodes by its row (R71-R73). -/
theorem decodeCommand_rd_rs {op : BitVec 8} {rd rs : VReg} (make : VReg → VReg → Instr)
    (hrow : commandTable.find? (fun r => r.op == op) =
      some { op := op, usesRd := true, usesRs := true, make := fun f => make f.rd f.rs }) :
    decodeCommand (cmdWord op rd rs 0 0) = .ok (make rd rs) :=
  decodeCommand_cmdWord _ hrow rfl

/-- The word of a command that uses `rd` and no other field decodes by its row (R71-R73). -/
theorem decodeCommand_rd {op : BitVec 8} {rd : VReg} (make : VReg → Instr)
    (hrow : commandTable.find? (fun r => r.op == op) =
      some { op := op, usesRd := true, make := fun f => make f.rd }) :
    decodeCommand (cmdWord op rd 0 0 0) = .ok (make rd) :=
  decodeCommand_cmdWord _ hrow rfl

theorem wroteVr_vr_self (s : State) (rd : VReg) (v : Vec) : (wroteVr s rd v).ctx.vr[rd] = v :=
  Vector.getElem_set_self rd.isLt

theorem wroteVr_lane_self (s : State) (rd : VReg) (f : Lane → Word16) (k : Lane) :
    (wroteVr s rd (lanes f)).ctx.vr[rd][k] = f k := by
  rw [wroteVr_vr_self]
  exact lanes_getElem f k k.isLt

theorem wroteVr_vr_of_ne {s : State} {rd r : VReg} {v : Vec} (h : r ≠ rd) :
    (wroteVr s rd v).ctx.vr[r] = s.ctx.vr[r] :=
  Vector.getElem_set_ne rd.isLt r.isLt fun e => h (Fin.ext e.symm)

theorem wroteVr_wvr_of_ne {s : State} {rd r : VReg} {v : Vec} (h : r ≠ rd) :
    (wroteVr s rd v).ctx.wvr[r] = s.ctx.wvr[r] :=
  Vector.getElem_set_ne rd.isLt r.isLt fun e => h (Fin.ext e.symm)

/-! VCOPY, VWIPE and VFILL (R121-R123). -/

theorem exec_vcopy_of_ok {rd rs : VReg} {s : State} {v : Vec} (h : s.ctx.readVr rs = .ok v) :
    exec (.vcopy rd rs) s = .next (wroteVr s rd v) := by
  simp only [exec, execVcopy, h]
  rfl

theorem exec_vcopy_of_error {rd rs : VReg} {s : State} {f : CommandFault} (h : s.ctx.readVr rs = .error f) :
    exec (.vcopy rd rs) s = .next (s.raise f) := by
  simp only [exec, execVcopy, h]
  rfl

theorem exec_vwipe (rd : VReg) (s : State) :
    exec (.vwipe rd) s = .next (wroteVr s rd (Vector.replicate 8 0x0000)) := rfl

theorem exec_vfill (rd : VReg) (s : State) :
    exec (.vfill rd) s = .next (wroteVr s rd (Vector.replicate 8 0xFFFF)) := rfl

/-! The two-operand commands (R124-R129). -/

/-- The instruction combines `VR[rd]` and `VR[rs]` lane by lane with `f` into `VR[rd]`. -/
def IsLanewise (i : Instr) (f : Word16 → Word16 → Word16) (rd rs : VReg) : Prop :=
  ∀ s : State, exec i s = s.conclude (s.ctx.lanewise f rd rs)

section
variable {i : Instr} {f : Word16 → Word16 → Word16} {rd rs : VReg} {s : State} (hi : IsLanewise i f rd rs)
include hi

theorem IsLanewise.exec_of_ok {a b : Vec} (ha : s.ctx.readVr rd = .ok a) (hb : s.ctx.readVr rs = .ok b) :
    exec i s = .next (wroteVr s rd (lanes fun k => f a[k] b[k])) := by
  simp only [hi s, Context.lanewise, ha, hb]
  rfl

/-- A fault in the read of `rd` is reported whatever the read of `rs` does (R205). -/
theorem IsLanewise.exec_of_error_rd {e : CommandFault} (ha : s.ctx.readVr rd = .error e) :
    exec i s = .next (s.raise e) := by
  simp only [hi s, Context.lanewise, ha]
  rfl

theorem IsLanewise.exec_of_error_rs {a : Vec} {e : CommandFault} (ha : s.ctx.readVr rd = .ok a)
    (hb : s.ctx.readVr rs = .error e) : exec i s = .next (s.raise e) := by
  simp only [hi s, Context.lanewise, ha, hb]
  rfl

theorem IsLanewise.exec_full (hd : FullVr s.ctx rd) (hs : FullVr s.ctx rs) :
    exec i s = .next (wroteVr s rd (lanes fun k => f s.ctx.vr[rd][k] s.ctx.vr[rs][k])) :=
  hi.exec_of_ok (readVr_ok hd) (readVr_ok hs)

theorem IsLanewise.exec_lowest_rd {j : Lane} (hj : LowestVr s.ctx rd j) :
    exec i s = .next (s.raise (.readBeforeWrite (.vr rd j))) :=
  hi.exec_of_error_rd (readVr_first hj.2 hj.1)

theorem IsLanewise.exec_lowest_rs {j : Lane} (hd : FullVr s.ctx rd) (hj : LowestVr s.ctx rs j) :
    exec i s = .next (s.raise (.readBeforeWrite (.vr rs j))) :=
  hi.exec_of_error_rs (readVr_ok hd) (readVr_first hj.2 hj.1)

end

section
variable (rd rs : VReg)

theorem isLanewise_vand : IsLanewise (.vand rd rs) (fun a b => a &&& b) rd rs := fun _ => rfl
theorem isLanewise_vor : IsLanewise (.vor rd rs) (fun a b => a ||| b) rd rs := fun _ => rfl
theorem isLanewise_vxor : IsLanewise (.vxor rd rs) (fun a b => a ^^^ b) rd rs := fun _ => rfl
theorem isLanewise_vcmplt : IsLanewise (.vcmplt rd rs) maskLt rd rs := fun _ => rfl
theorem isLanewise_vcmpeq : IsLanewise (.vcmpeq rd rs) maskEq rd rs := fun _ => rfl
theorem isLanewise_vcmpgt : IsLanewise (.vcmpgt rd rs) maskGt rd rs := fun _ => rfl

end

/-! The nine commands together. -/

/-- An elementwise command is VCOPY, VWIPE, VFILL, or a lane by lane combination. -/
theorem elementwise_cases {i : Instr} {rd rs : VReg} (h : i ∈ elementwise rd rs) :
    i = .vcopy rd rs ∨ i = .vwipe rd ∨ i = .vfill rd ∨ ∃ f, IsLanewise i f rd rs := by
  simp only [elementwise, List.mem_cons, List.not_mem_nil, or_false] at h
  rcases h with h | h | h | rfl | rfl | rfl | rfl | rfl | rfl
  · exact .inl h
  · exact .inr (.inl h)
  · exact .inr (.inr (.inl h))
  · exact .inr (.inr (.inr ⟨_, isLanewise_vand rd rs⟩))
  · exact .inr (.inr (.inr ⟨_, isLanewise_vor rd rs⟩))
  · exact .inr (.inr (.inr ⟨_, isLanewise_vxor rd rs⟩))
  · exact .inr (.inr (.inr ⟨_, isLanewise_vcmplt rd rs⟩))
  · exact .inr (.inr (.inr ⟨_, isLanewise_vcmpeq rd rs⟩))
  · exact .inr (.inr (.inr ⟨_, isLanewise_vcmpgt rd rs⟩))

/-- An elementwise command writes `VR[rd]` or reports an unwritten element (R133). -/
theorem exec_elementwise_cases {i : Instr} {rd rs : VReg} (h : i ∈ elementwise rd rs) (s : State) :
    (∃ v, exec i s = .next (wroteVr s rd v)) ∨ ∃ el, exec i s = .next (s.raise (.readBeforeWrite el)) := by
  rcases elementwise_cases h with rfl | rfl | rfl | ⟨f, hf⟩
  · rcases readVr_cases s.ctx rs with ⟨-, hb⟩ | ⟨j, -, hb⟩
    · exact .inl ⟨_, exec_vcopy_of_ok hb⟩
    · exact .inr ⟨_, exec_vcopy_of_error hb⟩
  · exact .inl ⟨_, exec_vwipe rd s⟩
  · exact .inl ⟨_, exec_vfill rd s⟩
  · rcases readVr_cases s.ctx rd with ⟨-, ha⟩ | ⟨j, -, ha⟩
    · rcases readVr_cases s.ctx rs with ⟨-, hb⟩ | ⟨j, -, hb⟩
      · exact .inl ⟨_, hf.exec_of_ok ha hb⟩
      · exact .inr ⟨_, hf.exec_of_error_rs ha hb⟩
    · exact .inr ⟨_, hf.exec_of_error_rd ha⟩

/-- On written registers an elementwise command is one lane function applied in every lane, the same function in every
state (R131). -/
theorem elementwise_lane_function {i : Instr} {rd rs : VReg} (h : i ∈ elementwise rd rs) :
    ∃ f : Word16 → Word16 → Word16, ∀ s : State, FullVr s.ctx rd → FullVr s.ctx rs →
      ∃ v : Vec, exec i s = .next (wroteVr s rd v) ∧ ∀ k : Lane, v[k] = f s.ctx.vr[rd][k] s.ctx.vr[rs][k] := by
  rcases elementwise_cases h with rfl | rfl | rfl | ⟨f, hf⟩
  · exact ⟨fun _ b => b, fun s _ hs => ⟨_, exec_vcopy_of_ok (readVr_ok hs), fun _ => rfl⟩⟩
  · exact ⟨fun _ _ => 0x0000, fun s _ _ => ⟨_, exec_vwipe rd s, fun k => Vector.getElem_replicate k.isLt⟩⟩
  · exact ⟨fun _ _ => 0xFFFF, fun s _ _ => ⟨_, exec_vfill rd s, fun k => Vector.getElem_replicate k.isLt⟩⟩
  · exact ⟨f, fun s hd hs => ⟨_, hf.exec_full hd hs, fun k => lanes_getElem _ k k.isLt⟩⟩

/-! The masks of the compares (R127-R130). -/

/-- Of the relations `<`, `=` and `>` exactly one holds, so one of the three masks is all-ones and two are zero. -/
theorem masks_trichotomy (a b : Word16) :
    (maskLt a b = 0xFFFF ∧ maskEq a b = 0x0000 ∧ maskGt a b = 0x0000) ∨
    (maskLt a b = 0x0000 ∧ maskEq a b = 0xFFFF ∧ maskGt a b = 0x0000) ∨
    (maskLt a b = 0x0000 ∧ maskEq a b = 0x0000 ∧ maskGt a b = 0xFFFF) := by
  unfold maskLt maskEq maskGt
  rcases lt_trichotomy a.toInt b.toInt with h | h | h
  · exact .inl (by simp [h, h.ne, h.not_gt, bool16, ones, zero])
  · exact .inr (.inl (by simp [h, bool16, ones, zero]))
  · exact .inr (.inr (by simp [h, h.ne', h.not_gt, bool16, ones, zero]))

/-- The same said by OR and AND of the masks (R130). -/
theorem masks_partition (a b : Word16) :
    maskLt a b ||| maskEq a b ||| maskGt a b = 0xFFFF ∧ maskLt a b &&& maskEq a b = 0 ∧
      maskLt a b &&& maskGt a b = 0 ∧ maskEq a b &&& maskGt a b = 0 ∧
      ∀ m ∈ [maskLt a b, maskEq a b, maskGt a b], m = 0xFFFF ∨ m = 0x0000 := by
  rcases masks_trichotomy a b with ⟨hlt, heq, hgt⟩ | ⟨hlt, heq, hgt⟩ | ⟨hlt, heq, hgt⟩ <;>
    simp [hlt, heq, hgt]

end Sys2Proof.Machine

namespace Sys2Proof.Claims
open Sys2Proof.Machine

/-- Settles O38: on written registers each compare writes its mask, and exactly one of the three masks of a lane is
all-ones. -/
theorem compareTrichotomy : Obligations.CompareTrichotomy := by
  unfold Obligations.CompareTrichotomy
  intro rd rs s hd hs
  refine ⟨_, _, _, (isLanewise_vcmplt rd rs).exec_full hd hs, (isLanewise_vcmpeq rd rs).exec_full hd hs,
    (isLanewise_vcmpgt rd rs).exec_full hd hs, ?_⟩
  intro k
  rw [wroteVr_lane_self, wroteVr_lane_self, wroteVr_lane_self]
  exact masks_partition s.ctx.vr[rd][k] s.ctx.vr[rs][k]

/-- Settles O39: the lane function of the command is the same in both states. -/
theorem lanesAreIndependent : Obligations.LanesAreIndependent := by
  unfold Obligations.LanesAreIndependent
  intro rd rs k s t hsd hss htd hts hrd hrs i hi
  obtain ⟨f, hf⟩ := elementwise_lane_function hi
  obtain ⟨v, hv, hvk⟩ := hf s hsd hss
  obtain ⟨w, hw, hwk⟩ := hf t htd hts
  refine ⟨_, _, hv, hw, ?_⟩
  rw [wroteVr_vr_self, wroteVr_vr_self, hvk, hwk, hrd, hrs]

/-- Settles O40: a command of the family writes `VR[rd]` and its marks, or raises a fault that leaves the context. -/
theorem elementwiseFrame : Obligations.ElementwiseFrame := by
  unfold Obligations.ElementwiseFrame
  intro rd rs s i hi
  rcases exec_elementwise_cases hi s with ⟨v, h⟩ | ⟨el, h⟩
  · exact ⟨_, h, fun r hr => ⟨wroteVr_vr_of_ne hr, wroteVr_wvr_of_ne hr⟩,
      ⟨rfl, rfl, rfl, rfl, rfl, rfl, rfl, rfl, rfl, rfl⟩, rfl, rfl, rfl, rfl, rfl, rfl, rfl, rfl, rfl⟩
  · exact ⟨_, h, fun r _ => ⟨rfl, rfl⟩,
      ⟨rfl, rfl, rfl, rfl, rfl, rfl, rfl, rfl, rfl, rfl⟩, rfl, rfl, rfl, rfl, rfl, rfl, rfl, rfl, rfl⟩

/-- Settles O34: VCOPY ends as its read of `rs` does; VWIPE and VFILL read nothing. -/
theorem copyWipeFillRule : Obligations.CopyWipeFillRule := by
  unfold Obligations.CopyWipeFillRule
  intro rd rs s
  refine ⟨decodeCommand_rd_rs .vcopy rfl, decodeCommand_rd .vwipe rfl, decodeCommand_rd .vfill rfl, ?_, ?_,
    exec_vwipe rd s, exec_vfill rd s⟩
  · intro hfull
    exact exec_vcopy_of_ok (readVr_ok hfull)
  · rintro j ⟨hj, hlow⟩
    exact exec_vcopy_of_error (readVr_first hlow hj)

/-- Settles O35: each command decodes by its row and combines the lanes with its operation. -/
theorem bitwiseRule : Obligations.BitwiseRule := by
  unfold Obligations.BitwiseRule
  intro rd rs s i op f hmem
  obtain ⟨hdec, hi⟩ : decodeCommand (cmdWord op rd rs 0 0) = .ok i ∧ IsLanewise i f rd rs := by
    simp only [List.mem_cons, Prod.mk.injEq, List.not_mem_nil, or_false] at hmem
    rcases hmem with ⟨rfl, rfl, rfl⟩ | ⟨rfl, rfl, rfl⟩ | ⟨rfl, rfl, rfl⟩
    · exact ⟨decodeCommand_rd_rs .vand rfl, isLanewise_vand rd rs⟩
    · exact ⟨decodeCommand_rd_rs .vor rfl, isLanewise_vor rd rs⟩
    · exact ⟨decodeCommand_rd_rs .vxor rfl, isLanewise_vxor rd rs⟩
  exact ⟨hdec, fun hd hs => ⟨_, fun k => lanes_getElem _ k k.isLt, hi.exec_full hd hs⟩,
    fun j hj => hi.exec_lowest_rd hj, fun j hd hj => hi.exec_lowest_rs hd hj⟩

/-- Settles O36: each command decodes by its row and writes the mask of its relation on the signed lanes. -/
theorem compareRule : Obligations.CompareRule := by
  unfold Obligations.CompareRule
  intro rd rs s i op rel hmem
  obtain ⟨hdec, hi⟩ : decodeCommand (cmdWord op rd rs 0 0) = .ok i ∧
      IsLanewise i (fun a b => bool16 (rel a.toInt b.toInt)) rd rs := by
    simp only [List.mem_cons, Prod.mk.injEq, List.not_mem_nil, or_false] at hmem
    rcases hmem with ⟨rfl, rfl, rfl⟩ | ⟨rfl, rfl, rfl⟩ | ⟨rfl, rfl, rfl⟩
    · exact ⟨decodeCommand_rd_rs .vcmplt rfl, isLanewise_vcmplt rd rs⟩
    · exact ⟨decodeCommand_rd_rs .vcmpeq rfl, isLanewise_vcmpeq rd rs⟩
    · exact ⟨decodeCommand_rd_rs .vcmpgt rfl, isLanewise_vcmpgt rd rs⟩
  exact ⟨hdec, fun hd hs => ⟨_, fun k => lanes_getElem _ k k.isLt, hi.exec_full hd hs⟩,
    fun j hj => hi.exec_lowest_rd hj, fun j hd hj => hi.exec_lowest_rs hd hj⟩

end Sys2Proof.Claims
end

section
/-! Shuffle (spec/42_shuffle.md R140-R144): the row of the identity codes, the source lanes VSHUF reads, its outcome on
that read, then the two statements of the family. -/
namespace Sys2Proof.Machine
open Sys2Proof.Claims

/-! Codes 0 and 1 (R141, R144). -/

/-- The identity row stands for codes 0 and 1 whatever the parameter is (R141). -/
theorem elementRow_of_lt_two {e : ElementCode} (he : e.val < 2) (rows : ElementRows) :
    elementRow rows e = lanes id :=
  dif_neg (Nat.not_le.2 he)

theorem elementRow_getElem_of_lt_two {e : ElementCode} (he : e.val < 2) (rows : ElementRows) (i : Lane) :
    (elementRow rows e)[i] = i := by
  rw [elementRow_of_lt_two he]
  exact lanes_getElem id i i.isLt

theorem shuffle_of_lt_two {α : Type} {e : ElementCode} (he : e.val < 2) (rows : ElementRows) (v : Vector α 8) :
    shuffle rows v e = v := by
  simp only [shuffle, elementRow_getElem_of_lt_two he, lanes_of_get]

/-! The guarded read of VSHUF (R39, R140). -/

/-- The source lanes are read in the order of the result lanes. -/
theorem shuffleElements_eq_map (rows : ElementRows) (rs : VReg) (e : ElementCode) :
    shuffleElements rows rs e = (List.finRange 8).map fun i : Lane => .vr rs (elementRow rows e)[i] := by
  apply List.ext_getElem <;> simp [shuffleElements]

theorem shuffleElements_of_lt_two {e : ElementCode} (he : e.val < 2) (rows : ElementRows) (rs : VReg) :
    shuffleElements rows rs e = vrElements rs := by
  simp only [shuffleElements_eq_map, elementRow_getElem_of_lt_two he, vrElements]

theorem require_shuffle_ok {c : Context} {rows : ElementRows} {rs : VReg} {e : ElementCode}
    (h : ∀ i : Lane, c.wvr[rs][(elementRow rows e)[i]] = true) :
    c.require (shuffleElements rows rs e) = .ok () := by
  rw [shuffleElements_eq_map]
  exact require_map_ok c _ h

theorem require_shuffle_first {c : Context} {rows : ElementRows} {rs : VReg} {e : ElementCode} {j : Lane}
    (hlow : ∀ i : Lane, i < j → c.wvr[rs][(elementRow rows e)[i]] = true)
    (hj : c.wvr[rs][(elementRow rows e)[j]] = false) :
    c.require (shuffleElements rows rs e) = .error (.readBeforeWrite (.vr rs (elementRow rows e)[j])) := by
  rw [shuffleElements_eq_map]
  exact require_first_map c (fun i : Lane => .vr rs (elementRow rows e)[i]) j hlow hj

/-! What VSHUF does. -/

theorem exec_vshuf_of_ok {rd rs : VReg} {e : ElementCode} {s : State}
    (h : s.ctx.require (shuffleElements s.cfg.elementRows rs e) = .ok ()) :
    exec (.vshuf rd rs e) s = .next (wroteVr s rd (shuffle s.cfg.elementRows s.ctx.vr[rs] e)) := by
  simp only [exec, execVshuf, h]
  rfl

theorem exec_vshuf_of_error {rd rs : VReg} {e : ElementCode} {s : State} {f : CommandFault}
    (h : s.ctx.require (shuffleElements s.cfg.elementRows rs e) = .error f) :
    exec (.vshuf rd rs e) s = .next (s.raise f) := by
  simp only [exec, execVshuf, h]
  rfl

/-- With an identity code VSHUF reads the lanes VCOPY reads and writes what VCOPY writes. -/
theorem exec_vshuf_eq_exec_vcopy {e : ElementCode} (he : e.val < 2) (rd rs : VReg) (s : State) :
    exec (.vshuf rd rs e) s = exec (.vcopy rd rs) s := by
  simp only [exec, execVshuf, execVcopy, Context.readVr, shuffleElements_of_lt_two he, shuffle_of_lt_two he,
    bind_assoc, pure_bind]

end Sys2Proof.Machine

namespace Sys2Proof.Claims
open Sys2Proof.Machine

/-- Settles O42: VSHUF ends as its read of the selected lanes does, and with code 0 or 1 as VCOPY does. -/
theorem vshufRule : Obligations.VshufRule := by
  unfold Obligations.VshufRule
  intro rd rs e s
  refine ⟨decodeCommand_cmdWord
    { op := 0x10, usesRd := true, usesRs := true, usesE := true, make := fun f => .vshuf f.rd f.rs f.e } rfl rfl,
    ?_, ?_, ?_⟩
  · intro hsel
    exact ⟨_, fun i => shuffle_getElem _ _ e i i.isLt, exec_vshuf_of_ok (require_shuffle_ok hsel)⟩
  · intro j hj hlow
    exact exec_vshuf_of_error (require_shuffle_first hlow hj)
  · intro he
    exact exec_vshuf_eq_exec_vcopy he rd rs s

/-- Settles O43: the parameter holds rows 2 to 15 only, so rows 0 and 1 stay the identity. -/
theorem shuffleIdentity : Obligations.ShuffleIdentity := by
  unfold Obligations.ShuffleIdentity
  intro rows v
  have h0 : (0 : ElementCode).val < 2 := by decide
  have h1 : (1 : ElementCode).val < 2 := by decide
  exact ⟨fun i => ⟨elementRow_getElem_of_lt_two h0 rows i, elementRow_getElem_of_lt_two h1 rows i⟩,
    shuffle_of_lt_two h0 rows v, shuffle_of_lt_two h1 rows v⟩

end Sys2Proof.Claims
end

section
/-! Condition flags (spec/43_flags.md R150-R169): the packed reads are one rule over the bits they need, the expanded
reads and writes one rule each over the flag field, and those rules give the five statements of the family. -/
namespace Sys2Proof.Machine
open Sys2Proof.Claims

/-- The word of a command that uses `rs` and no other field decodes by its row (R71-R73). -/
theorem decodeCommand_rs {op : BitVec 8} {rs : VReg} (make : VReg → Instr)
    (hrow : commandTable.find? (fun r => r.op == op) =
      some { op := op, usesRs := true, make := fun f => make f.rs }) :
    decodeCommand (cmdWord op 0 rs 0 0) = .ok (make rs) :=
  decodeCommand_cmdWord _ hrow rfl

/-! Packed reads (R150-R152). -/

/-- The instruction needs the bits `el`, lowest first, and drives `DOUT_P` with `p` of the context. -/
def IsPackedRead (i : Instr) {n : Nat} (el : Fin n → Element) (p : Context → Word16) : Prop :=
  ∀ s : State, exec i s = s.conclude do
    s.ctx.require ((List.finRange n).map el)
    return { ctx := s.ctx, out := { p := some (p s.ctx) } }

section
variable {i : Instr} {n : Nat} {el : Fin n → Element} {p : Context → Word16} {s : State} (hi : IsPackedRead i el p)
include hi

theorem IsPackedRead.exec_of_written (hw : ∀ k, s.ctx.written (el k) = true) :
    exec i s = .next (drove s { p := some (p s.ctx) }) := by
  rw [hi s, require_map_ok _ _ hw]
  rfl

theorem IsPackedRead.exec_of_lowest {k : Fin n} (hk : s.ctx.written (el k) = false)
    (hlow : ∀ l, l < k → s.ctx.written (el l) = true) : exec i s = .next (s.raise (.readBeforeWrite (el k))) := by
  rw [hi s, require_first_map _ _ k hlow hk]
  rfl

end

/-- The high byte of VCE reads as zero (R152). -/
theorem zeroExtend_eq_zero_append (b : BitVec 8) : b.zeroExtend 16 = 0#8 ++ b :=
  BitVec.setWidth_eq_append (by decide)

theorem isPackedRead_getvco : IsPackedRead .getvco .vco Context.vco := fun s => by
  simp only [exec, execGetvco, Context.readVco, vcoElements, bind_assoc, pure_bind]

theorem isPackedRead_getvcc : IsPackedRead .getvcc .vcc Context.vcc := fun s => by
  simp only [exec, execGetvcc, Context.readVcc, vccElements, bind_assoc, pure_bind]

theorem isPackedRead_getvce : IsPackedRead .getvce .vce fun c => 0#8 ++ c.vce := fun s => by
  simp only [exec, execGetvce, Context.readVce, vceElements, bind_assoc, pure_bind, zeroExtend_eq_zero_append]

/-! Packed writes (R153-R155). -/

theorem exec_setvco (s : State) : exec .setvco s = .next { s with ctx := s.ctx.writeVco s.din.p, dout := {} } := rfl

theorem exec_setvcc (s : State) : exec .setvcc s = .next { s with ctx := s.ctx.writeVcc s.din.p, dout := {} } := rfl

theorem exec_setvce (s : State) :
    exec .setvce s = .next { s with ctx := s.ctx.writeVce (vceOfPort s.din.p), dout := {} } := rfl

/-- What SETVCE keeps of a port value, read back by GETVCE (R156). -/
theorem zero_append_vceOfPort (x : Word16) : 0#8 ++ vceOfPort x = x &&& 0x00FF := by
  have hmask : x.toNat &&& 0xFF = x.toNat % 2 ^ 8 := Nat.and_two_pow_sub_one_eq_mod x.toNat 8
  have hlt : x.toNat % 256 < 65536 := by omega
  rw [← zeroExtend_eq_zero_append]
  apply BitVec.eq_of_toNat_eq
  simp [vceOfPort, hmask, hlt]

/-! Expanded reads (R157-R161). -/

/-- The instruction is the expanded read of field `f` into `VR[rd]`. -/
def IsExpandedRead (i : Instr) (f : FlagField) (rd : VReg) : Prop :=
  ∀ s : State, exec i s = s.conclude (s.ctx.readExpanded f rd)

section
variable {i : Instr} {f : FlagField} {rd : VReg} {s : State} (hi : IsExpandedRead i f rd)
include hi

theorem IsExpandedRead.exec_of_written (hw : ∀ k, s.ctx.written (f.element k) = true) :
    exec i s = .next (wroteVr s rd (expand (s.ctx.flagByte f))) := by
  rw [hi s, Context.readExpanded, require_map_ok _ _ hw]
  rfl

theorem IsExpandedRead.exec_of_lowest {k : Lane} (hk : s.ctx.written (f.element k) = false)
    (hlow : ∀ l, l < k → s.ctx.written (f.element l) = true) :
    exec i s = .next (s.raise (.readBeforeWrite (f.element k))) := by
  rw [hi s, Context.readExpanded, require_first_map _ _ k hlow hk]
  rfl

end

/-- Lane `k` of the expanded form is all-ones or all-zero as bit `k` of the field is set or clear (R32). -/
theorem expand_lane (b : BitVec 8) (k : Lane) : (expand b)[k] = if b.getLsbD k then 0xFFFF else 0x0000 :=
  lanes_getElem _ k k.isLt

/-! The mask an expanded write packs (R169). -/

/-- What `Pack(r)` looks for: a lane that is neither all-ones nor all-zero. -/
theorem nonCanonical_lane (x : Word16) : (x != ones && x != zero) = !decide (x = 0xFFFF ∨ x = 0x0000) := by
  rw [Bool.decide_or, Bool.not_or]
  rfl

theorem readMask_of_canonical {c : Context} {r : VReg} (hfull : FullVr c r) (hcan : Canonical c.vr[r]) :
    c.readMask r = .ok (packMask c.vr[r]) := by
  have hnone : (List.finRange 8).find? (fun i => c.vr[r][i] != ones && c.vr[r][i] != zero) = none := by
    rw [← Fin.find?_eq_find?_finRange, Fin.find?_eq_none_iff]
    intro i
    simp only [nonCanonical_lane, hcan i, decide_true, Bool.not_true]
  simp only [Context.readMask, readVr_ok hfull, bind, Except.bind, hnone]

theorem readMask_of_lowest {c : Context} {r : VReg} {j : Lane} (hj : LowestVr c r j) :
    c.readMask r = .error (.readBeforeWrite (.vr r j)) := by
  simp only [Context.readMask, readVr_first hj.2 hj.1, bind, Except.bind]

theorem readMask_of_nonCanonical {c : Context} {r : VReg} {j : Lane} (hfull : FullVr c r)
    (hone : c.vr[r][j] ≠ 0xFFFF) (hzero : c.vr[r][j] ≠ 0x0000)
    (hlow : ∀ k : Lane, k < j → c.vr[r][k] = 0xFFFF ∨ c.vr[r][k] = 0x0000) :
    c.readMask r = .error (.nonCanonicalFlagLane r j) := by
  have hfirst : (List.finRange 8).find? (fun i => c.vr[r][i] != ones && c.vr[r][i] != zero) = some j := by
    rw [← Fin.find?_eq_find?_finRange, Fin.find?_eq_some_iff]
    refine ⟨?_, fun k hk => ?_⟩
    · simp only [nonCanonical_lane, hone, hzero, or_false, decide_false, Bool.not_false]
    · simp only [nonCanonical_lane, hlow k hk, decide_true, Bool.not_true]
  simp only [Context.readMask, readVr_ok hfull, bind, Except.bind, hfirst]

/-- Bit `k` of a packed mask is set exactly where lane `k` is all-ones (R169). -/
theorem packMask_getLsbD (m : Vec) (k : Nat) (hk : k < 8) : (packMask m).getLsbD k = decide (m[k] = 0xFFFF) := by
  rw [BitVec.getLsbD_eq_getElem hk, packMask_getElem m k hk]
  rfl

/-- A write of the low byte keeps the high byte and its marks (R162, R164). -/
theorem lowByteSet_packMask (m : Vec) (old : Word16) (w : Vector Bool 16) :
    LowByteSet m old (old.extractLsb' 8 8 ++ packMask m) w (markLow w) := by
  intro k
  refine ⟨?_, markLow_getElem w k k.isLt⟩
  rw [BitVec.getLsbD_append]
  by_cases hk : k.val < 8
  · simp only [hk, if_true, dif_pos, packMask_getLsbD]
  · have hsub : k.val - 8 < 8 := by omega
    have hadd : 8 + (k.val - 8) = k.val := by omega
    simp [hk, hsub, hadd]

/-- A write of the high byte keeps the low byte and its marks (R163, R165). -/
theorem highByteSet_packMask (m : Vec) (old : Word16) (w : Vector Bool 16) :
    HighByteSet m old (packMask m ++ old.extractLsb' 0 8) w (markHigh w) := by
  intro k
  refine ⟨?_, markHigh_getElem w k k.isLt⟩
  rw [BitVec.getLsbD_append]
  by_cases hk : k.val < 8
  · simp [hk, Nat.not_le.2 hk]
  · have hsub : k.val - 8 < 8 := by omega
    simp [hk, Nat.not_lt.1 hk, packMask_getLsbD _ _ hsub]

/-! Expanded writes (R162-R166). -/

/-- The instruction is the expanded write of field `f` from `VR[rs]`. -/
def IsExpandedWrite (i : Instr) (f : FlagField) (rs : VReg) : Prop :=
  ∀ s : State, exec i s = s.conclude (s.ctx.writeExpanded f rs)

section
variable {i : Instr} {f : FlagField} {rs : VReg} {s : State} (hi : IsExpandedWrite i f rs)
include hi

theorem IsExpandedWrite.exec_of_ok {b : BitVec 8} (h : s.ctx.readMask rs = .ok b) :
    exec i s = .next { s with ctx := s.ctx.writeFlagByte f b, dout := {} } := by
  rw [hi s, Context.writeExpanded, h]
  rfl

theorem IsExpandedWrite.exec_of_error {e : CommandFault} (h : s.ctx.readMask rs = .error e) :
    exec i s = .next (s.raise e) := by
  rw [hi s, Context.writeExpanded, h]
  rfl

end

section
variable (rs : VReg)

theorem isExpandedWrite_xwrCo : IsExpandedWrite (.xwrCo rs) .co rs := fun _ => rfl
theorem isExpandedWrite_xwrNe : IsExpandedWrite (.xwrNe rs) .ne rs := fun _ => rfl
theorem isExpandedWrite_xwrLt : IsExpandedWrite (.xwrLt rs) .lt rs := fun _ => rfl
theorem isExpandedWrite_xwrGe : IsExpandedWrite (.xwrGe rs) .ge rs := fun _ => rfl
theorem isExpandedWrite_xwrCe : IsExpandedWrite (.xwrCe rs) .ce rs := fun _ => rfl

end

/-- Each of the five XWR commands is the expanded write of a field. -/
theorem exists_isExpandedWrite {i : Instr} {rs : VReg}
    (h : i ∈ [Instr.xwrCo rs, .xwrNe rs, .xwrLt rs, .xwrGe rs, .xwrCe rs]) : ∃ f, IsExpandedWrite i f rs := by
  simp only [List.mem_cons, List.not_mem_nil, or_false] at h
  rcases h with rfl | rfl | rfl | rfl | rfl
  · exact ⟨_, isExpandedWrite_xwrCo rs⟩
  · exact ⟨_, isExpandedWrite_xwrNe rs⟩
  · exact ⟨_, isExpandedWrite_xwrLt rs⟩
  · exact ⟨_, isExpandedWrite_xwrGe rs⟩
  · exact ⟨_, isExpandedWrite_xwrCe rs⟩

end Sys2Proof.Machine

namespace Sys2Proof.Claims
open Sys2Proof.Machine

/-- Settles O47: a packed write marks every bit, so the packed read that follows drives what was kept. -/
theorem packedRoundTrip : Obligations.PackedRoundTrip := by
  unfold Obligations.PackedRoundTrip
  intro s
  refine ⟨⟨_, exec_setvco s, isPackedRead_getvco.exec_of_written fun k => ?_⟩,
    ⟨_, exec_setvcc s, isPackedRead_getvcc.exec_of_written fun k => ?_⟩, ⟨_, exec_setvce s, ?_⟩⟩
  · exact Vector.getElem_replicate k.isLt
  · exact Vector.getElem_replicate k.isLt
  · rw [← zero_append_vceOfPort]
    exact isPackedRead_getvce.exec_of_written fun k => Vector.getElem_replicate k.isLt

/-- Settles O45: each packed read drives its register when every bit is written and else faults on the lowest unwritten
one. -/
theorem packedReadRule : Obligations.PackedReadRule := by
  unfold Obligations.PackedReadRule
  intro s
  exact ⟨rfl, rfl, rfl,
    isPackedRead_getvco.exec_of_written, fun _ ⟨hk, hlow⟩ => isPackedRead_getvco.exec_of_lowest hk hlow,
    isPackedRead_getvcc.exec_of_written, fun _ ⟨hk, hlow⟩ => isPackedRead_getvcc.exec_of_lowest hk hlow,
    isPackedRead_getvce.exec_of_written, fun _ ⟨hk, hlow⟩ => isPackedRead_getvce.exec_of_lowest hk hlow⟩

/-- Settles O46: each packed write leaves its register and marks written and nothing else changed. -/
theorem packedWriteRule : Obligations.PackedWriteRule := by
  unfold Obligations.PackedWriteRule
  intro s
  exact ⟨rfl, rfl, rfl, exec_setvco s, exec_setvcc s, exec_setvce s⟩

/-- Settles O48: each command decodes by its row and is the expanded read of its field. -/
theorem expandedReadRule : Obligations.ExpandedReadRule := by
  unfold Obligations.ExpandedReadRule
  intro rd s i op bit mark el hmem
  obtain ⟨hdec, f, hi, hbit, hmark, hel⟩ : decodeCommand (cmdWord op rd 0 0 0) = .ok i ∧ ∃ f, IsExpandedRead i f rd ∧
      (∀ k : Lane, bit k = (s.ctx.flagByte f).getLsbD k) ∧ (∀ k, mark k = s.ctx.written (f.element k)) ∧
      el = f.element := by
    simp only [List.mem_cons, Prod.mk.injEq, List.not_mem_nil, or_false] at hmem
    rcases hmem with ⟨rfl, rfl, rfl, rfl, rfl⟩ | ⟨rfl, rfl, rfl, rfl, rfl⟩ | ⟨rfl, rfl, rfl, rfl, rfl⟩ |
      ⟨rfl, rfl, rfl, rfl, rfl⟩ | ⟨rfl, rfl, rfl, rfl, rfl⟩
    · exact ⟨decodeCommand_rd .xrdCo rfl, .co, fun _ => rfl, fun k => by simp [Context.flagByte], fun _ => rfl, rfl⟩
    · exact ⟨decodeCommand_rd .xrdNe rfl, .ne, fun _ => rfl, fun k => by simp [Context.flagByte], fun _ => rfl, rfl⟩
    · exact ⟨decodeCommand_rd .xrdLt rfl, .lt, fun _ => rfl, fun k => by simp [Context.flagByte], fun _ => rfl, rfl⟩
    · exact ⟨decodeCommand_rd .xrdGe rfl, .ge, fun _ => rfl, fun k => by simp [Context.flagByte], fun _ => rfl, rfl⟩
    · exact ⟨decodeCommand_rd .xrdCe rfl, .ce, fun _ => rfl, fun _ => rfl, fun _ => rfl, rfl⟩
  subst hel
  simp only [hbit, hmark]
  exact ⟨hdec, fun hw => ⟨_, expand_lane _, hi.exec_of_written hw⟩, fun _ hk hlow => hi.exec_of_lowest hk hlow⟩

/-- Settles O49: each command decodes by its row and ends as its read of the mask does, which reports an unwritten lane
before a lane that is neither all-ones nor all-zero. -/
theorem expandedWriteRule : Obligations.ExpandedWriteRule := by
  unfold Obligations.ExpandedWriteRule
  intro rs s
  refine ⟨⟨decodeCommand_rs .xwrCo rfl, decodeCommand_rs .xwrNe rfl, decodeCommand_rs .xwrLt rfl,
    decodeCommand_rs .xwrGe rfl, decodeCommand_rs .xwrCe rfl⟩, ?_, ?_⟩
  · intro hfull hcan
    have hmask := readMask_of_canonical hfull hcan
    exact ⟨⟨_, (isExpandedWrite_xwrCo rs).exec_of_ok hmask, rfl, lowByteSet_packMask _ _ _⟩,
      ⟨_, (isExpandedWrite_xwrNe rs).exec_of_ok hmask, rfl, highByteSet_packMask _ _ _⟩,
      ⟨_, (isExpandedWrite_xwrLt rs).exec_of_ok hmask, rfl, lowByteSet_packMask _ _ _⟩,
      ⟨_, (isExpandedWrite_xwrGe rs).exec_of_ok hmask, rfl, highByteSet_packMask _ _ _⟩,
      ⟨_, (isExpandedWrite_xwrCe rs).exec_of_ok hmask, rfl, fun k => packMask_getLsbD _ k k.isLt⟩⟩
  · intro i hmem
    obtain ⟨f, hi⟩ := exists_isExpandedWrite hmem
    exact ⟨fun j hj => hi.exec_of_error (readMask_of_lowest hj), fun j hfull hone hzero hlow =>
      hi.exec_of_error (readMask_of_nonCanonical hfull hone hzero hlow)⟩

end Sys2Proof.Claims
end

section
/-! Reset and creation (spec/70_reset_and_hazards.md R220, R221): what RESET leaves, the marks and values of a context
at creation under each policy, then the two statements of the family. -/
namespace Sys2Proof.Machine

/-- RESET leaves the context of a new instance with the same configuration, and drives no port (R220, R221). -/
theorem exec_reset (s : State) :
    exec .reset s = .next { s with ctx := Context.created s.cfg.resetPolicy, dout := {} } := rfl

/-- Every mark of a new context is set under `ZERO` and clear under `UNWRITTEN` (R43). -/
@[simp] theorem created_written (policy : ResetPolicy) (el : Element) :
    (Context.created policy).written el = decide (policy = .zero) := by
  cases el <;> simp [Context.written, Context.created]

/-! The values of a new context (R43). Under `UNWRITTEN` no mark gives them out. -/

theorem created_vr_lane (policy : ResetPolicy) (r : VReg) (i : Lane) :
    (Context.created policy).vr[r][i] = 0 := by
  simp [Context.created]

theorem created_accH_lane (policy : ResetPolicy) (i : Lane) : (Context.created policy).accH[i] = 0 :=
  Vector.getElem_replicate i.isLt

theorem created_accM_lane (policy : ResetPolicy) (i : Lane) : (Context.created policy).accM[i] = 0 :=
  Vector.getElem_replicate i.isLt

theorem created_accL_lane (policy : ResetPolicy) (i : Lane) : (Context.created policy).accL[i] = 0 :=
  Vector.getElem_replicate i.isLt

@[simp] theorem created_vco (policy : ResetPolicy) : (Context.created policy).vco = 0 := rfl
@[simp] theorem created_vcc (policy : ResetPolicy) : (Context.created policy).vcc = 0 := rfl
@[simp] theorem created_vce (policy : ResetPolicy) : (Context.created policy).vce = 0 := rfl

end Sys2Proof.Machine

namespace Sys2Proof.Claims
open Sys2Proof.Machine

/-- Settles O16: RESET leaves a new context and undriven ports, and the policy alone says which marks a new context
has. -/
theorem resetRule : Obligations.ResetRule := by
  unfold Obligations.ResetRule
  refine ⟨rfl, fun s => ⟨_, exec_reset s, rfl, fun hunwritten el => ?_, fun hzero => ⟨fun el => ?_, ?_⟩⟩⟩
  · rw [created_written, hunwritten]
    rfl
  · rw [created_written, hzero]
    rfl
  · exact ⟨created_vr_lane _, fun i => ⟨created_accH_lane _ i, created_accM_lane _ i, created_accL_lane _ i⟩,
      created_vco _, created_vcc _, created_vce _⟩

/-- Settles O17: RESET leaves the context of a new instance, whose records are empty. -/
theorem creationEqualsReset : Obligations.CreationEqualsReset := by
  unfold Obligations.CreationEqualsReset
  intro s
  exact ⟨_, exec_reset s, rfl, rfl, rfl⟩

end Sys2Proof.Claims
end

section
/-! Encoding (spec/30_encoding.md R71-R81): the decoder row by row and slot by slot, the words of each row, then the
statements about words. -/
namespace Sys2Proof

/-! Slots (R77-R81). -/

@[simp] theorem decodeSlotWord_iwWord (k : SlotIndex) (f : IwOperands) :
    decodeSlotWord (iwWord k f) = Instr.ofSlot k f := by
  simp only [decodeSlotWord, Machine.slotOfWord_iwWord, Machine.operandsOfWord_iwWord]

theorem decodeWord_iwWord (k : SlotIndex) (f : IwOperands) :
    decodeWord (.slotWord (iwWord k f)) = .ok (Instr.ofSlot k f) :=
  congrArg Except.ok (decodeSlotWord_iwWord k f)

theorem encode_ofSlot (k : SlotIndex) (f : IwOperands) : encode (Instr.ofSlot k f) = .slotWord (iwWord k f) := by
  fin_cases k <;> rfl

/-! Rows of the operation-code map (R71-R74). -/

/-- No two rows have the same operation code. -/
theorem commandTable_find? {row : CmdRow} (h : row ∈ commandTable) :
    commandTable.find? (fun r => r.op == row.op) = some row := by
  fin_cases h <;> rfl

theorem decodeCommand_of_mem {row : CmdRow} {w : Word32} (h : row ∈ commandTable) (hop : row.op = (cmdFields w).op) :
    decodeCommand w =
      if row.unusedZero (cmdFields w) then .ok (row.make (cmdFields w)) else .error (.nonZeroUnusedField w) := by
  simp only [decodeCommand, ← hop, commandTable_find? h]

theorem decodeCommand_of_forall_ne {w : Word32} (h : ∀ row ∈ commandTable, row.op ≠ (cmdFields w).op) :
    decodeCommand w = .error (.reservedCommand w) := by
  have hnone : commandTable.find? (fun row => row.op == (cmdFields w).op) = none := by
    simpa [List.find?_eq_none] using h
  simp only [decodeCommand, hnone]

/-- An accepted word has the operation code of a row and zero in the fields the row does not use. -/
theorem decodeCommand_ok {w : Word32} {i : Instr} (h : decodeCommand w = .ok i) :
    ∃ row ∈ commandTable, row.op = (cmdFields w).op ∧ row.unusedZero (cmdFields w) = true ∧
      i = row.make (cmdFields w) := by
  by_cases hmem : ∃ row ∈ commandTable, row.op = (cmdFields w).op
  · obtain ⟨row, hrow, hop⟩ := hmem
    rw [decodeCommand_of_mem hrow hop] at h
    split at h
    next hz => exact ⟨row, hrow, hop, hz, (Except.ok.inj h).symm⟩
    next => cases h
  · rw [decodeCommand_of_forall_ne (by simpa using hmem)] at h
    cases h

theorem decodeCommand_lane {op : BitVec 8} {lane : Lane} (make : Lane → Instr)
    (hrow : commandTable.find? (fun r => r.op == op) =
      some { op := op, usesLane := true, make := fun f => make f.lane }) :
    decodeCommand (cmdWord op 0 0 0 lane) = .ok (make lane) :=
  Machine.decodeCommand_cmdWord _ hrow rfl

/-! The word of a row's instruction. -/

/-- The word with the given fields (R71). -/
def CmdFields.word (f : CmdFields) : Word32 :=
  f.op ++ BitVec.ofFin (w := 5) f.rd ++ BitVec.ofFin (w := 5) f.rs ++ BitVec.ofFin (w := 4) f.e
    ++ BitVec.ofFin (w := 3) f.lane ++ f.z

@[simp] theorem word_cmdFields (w : Word32) : (cmdFields w).word = w := by
  simp only [CmdFields.word, cmdFields]
  ext j hj
  simp only [BitVec.getElem_append, BitVec.getElem_extractLsb', BitVec.ofFin_toFin]
  repeat' split
  all_goals (rw [BitVec.getElem_eq_testBit_toNat, BitVec.getLsbD]; congr 1; omega)

/-- A row's instruction has the fields the row uses, and zero in the others. -/
theorem encode_make {row : CmdRow} (h : row ∈ commandTable) (f : CmdFields) :
    encode (row.make f) = .command (cmdWord row.op (if row.usesRd then f.rd else 0) (if row.usesRs then f.rs else 0)
      (if row.usesE then f.e else 0) (if row.usesLane then f.lane else 0)) := by
  fin_cases h <;> rfl

theorem ite_used_eq {n : Nat} [NeZero n] {used : Bool} {x : Fin n} (h : used = true ∨ x = 0) :
    (if used then x else 0) = x := by
  rcases h with h | h <;> simp [h]

theorem cmdWord_of_unusedZero {row : CmdRow} {f : CmdFields} (hz : row.unusedZero f = true) :
    cmdWord f.op (if row.usesRd then f.rd else 0) (if row.usesRs then f.rs else 0)
      (if row.usesE then f.e else 0) (if row.usesLane then f.lane else 0) = f.word := by
  simp only [CmdRow.unusedZero, Bool.and_eq_true, Bool.or_eq_true, beq_iff_eq] at hz
  obtain ⟨⟨⟨⟨hrd, hrs⟩, he⟩, hlane⟩, hz⟩ := hz
  rw [ite_used_eq hrd, ite_used_eq hrs, ite_used_eq he, ite_used_eq hlane, CmdFields.word, hz]
  rfl

/-! The bits a row leaves unused (R72). -/

/-- The bits that a command word of the row must leave zero. -/
def CmdRow.unusedBits (row : CmdRow) : Word32 :=
  BitVec.fill 8 false ++ BitVec.fill 5 (!row.usesRd) ++ BitVec.fill 5 (!row.usesRs) ++ BitVec.fill 4 (!row.usesE)
    ++ BitVec.fill 3 (!row.usesLane) ++ BitVec.fill 7 true

theorem append_eq_zero_iff {m n : Nat} (x : BitVec m) (y : BitVec n) : x ++ y = 0#(m + n) ↔ x = 0#m ∧ y = 0#n := by
  rw [← BitVec.zero_append_zero]
  constructor
  · intro h
    have hx := congrArg (BitVec.extractLsb' n m) h
    have hy := congrArg (BitVec.extractLsb' 0 n) h
    rw [BitVec.extractLsb'_append_eq_left, BitVec.extractLsb'_append_eq_left] at hx
    rw [BitVec.extractLsb'_append_eq_right, BitVec.extractLsb'_append_eq_right] at hy
    exact ⟨hx, hy⟩
  · rintro ⟨rfl, rfl⟩
    rfl

theorem append_and_eq_zero_iff {m n : Nat} (x x' : BitVec m) (y y' : BitVec n) :
    (x ++ y) &&& (x' ++ y') = 0#(m + n) ↔ x &&& x' = 0#m ∧ y &&& y' = 0#n := by
  rw [BitVec.and_append, append_eq_zero_iff]

theorem and_fill_not_eq_zero_iff {n : Nat} (x : BitVec n) (used : Bool) :
    x &&& BitVec.fill n (!used) = 0#n ↔ used = true ∨ x = 0#n := by
  cases used <;> simp

theorem ofFin_eq_zero_iff {n : Nat} (x : Fin (2 ^ n)) : BitVec.ofFin x = 0#n ↔ x = 0 :=
  ⟨fun h => congrArg BitVec.toFin h, fun h => by rw [h]; rfl⟩

theorem unusedZero_iff (row : CmdRow) (f : CmdFields) :
    row.unusedZero f = true ↔ f.word &&& row.unusedBits = 0 := by
  have hop : f.op &&& BitVec.fill 8 false = 0#8 := BitVec.and_zero
  have hz : f.z &&& BitVec.fill 7 true = f.z := BitVec.and_allOnes
  have hsplit : f.word &&& row.unusedBits = 0#(8 + 5 + 5 + 4 + 3 + 7) ↔ _ := append_and_eq_zero_iff _ _ _ _
  simp only [append_and_eq_zero_iff, and_fill_not_eq_zero_iff, ofFin_eq_zero_iff, hop, hz, true_and] at hsplit
  rw [show f.word &&& row.unusedBits = 0 ↔ _ from hsplit]
  simp only [CmdRow.unusedZero, Bool.and_eq_true, Bool.or_eq_true, beq_iff_eq]
  rfl

/-- The list of the claims says of each operation code what its row says. -/
theorem usedFields_eq : Claims.usedFields.map (fun p => (p.1, ~~~(0xFF000000 ||| p.2))) =
    commandTable.map fun row => (row.op, row.unusedBits) := by
  rfl

theorem exists_row_of_mem_usedFields {p : BitVec 8 × Word32} (hp : p ∈ Claims.usedFields) :
    ∃ row ∈ commandTable, row.op = p.1 ∧ row.unusedBits = ~~~(0xFF000000 ||| p.2) := by
  have hmem := List.mem_map_of_mem (f := fun p => (p.1, ~~~(0xFF000000 ||| p.2))) hp
  rw [usedFields_eq, List.mem_map] at hmem
  obtain ⟨row, hrow, heq⟩ := hmem
  obtain ⟨hop, hbits⟩ := Prod.mk.inj heq
  exact ⟨row, hrow, hop, hbits⟩

theorem exists_mem_usedFields_of_row {row : CmdRow} (h : row ∈ commandTable) :
    ∃ p ∈ Claims.usedFields, p.1 = row.op := by
  have hmem := List.mem_map_of_mem (f := fun row : CmdRow => (row.op, row.unusedBits)) h
  rw [← usedFields_eq, List.mem_map] at hmem
  obtain ⟨p, hp, heq⟩ := hmem
  exact ⟨p, hp, (Prod.mk.inj heq).1⟩

end Sys2Proof

namespace Sys2Proof.Claims
open Sys2Proof.Machine

/-- Settles O2: by the fields the instruction uses, each command decodes by its row; each slot instruction decodes by
its slot. -/
theorem decodeOfEncode : Obligations.DecodeOfEncode := by
  unfold Obligations.DecodeOfEncode
  intro i
  cases i
  case vcopy | vand | vor | vxor | vcmplt | vcmpeq | vcmpgt => exact decodeCommand_rd_rs _ rfl
  case vwipe | vfill | vwrite | xrdCo | xrdNe | xrdLt | xrdGe | xrdCe => exact decodeCommand_rd _ rfl
  case vread | xwrCo | xwrNe | xwrLt | xwrGe | xwrCe => exact decodeCommand_rs _ rfl
  case accrdl | accwrl => exact decodeCommand_lane _ rfl
  case getvco | getvcc | getvce | setvco | setvcc | setvce | accrd | accwr | dispatch | reset => rfl
  case vshuf =>
    exact decodeCommand_cmdWord
      { op := 0x10, usesRd := true, usesRs := true, usesE := true, make := fun f => .vshuf f.rd f.rs f.e } rfl rfl
  all_goals exact decodeWord_iwWord _ _

/-- Settles O3: the word of the row's instruction is the accepted word, since every field the row does not use is zero;
an instruction word is rebuilt from its slot and operands. -/
theorem encodeOfDecode : Obligations.EncodeOfDecode := by
  unfold Obligations.EncodeOfDecode
  constructor
  · intro w i h
    obtain ⟨row, hrow, hop, hz, rfl⟩ := decodeCommand_ok h
    rw [encode_make hrow, hop, cmdWord_of_unusedZero hz, word_cmdFields]
  · intro w
    rw [decodeSlotWord, encode_ofSlot, iwWord_ofWord]

/-- Settles O4: the listed masks are the rows' own, and a word is refused by its row exactly when it has a bit the row
leaves unused. -/
theorem refusalOfCommandWords : Obligations.RefusalOfCommandWords := by
  unfold Obligations.RefusalOfCommandWords
  intro w
  refine ⟨⟨fun h p hp hop => ?_, fun h => decodeCommand_of_forall_ne fun row hrow hop => ?_⟩, fun p hp hop => ?_⟩
  · obtain ⟨row, hrow, hrowop, -⟩ := exists_row_of_mem_usedFields hp
    rw [decodeCommand_of_mem hrow (hrowop.trans hop)] at h
    split at h <;> cases h
  · obtain ⟨p, hp, hpop⟩ := exists_mem_usedFields_of_row hrow
    exact h p hp (hpop.trans hop)
  · obtain ⟨row, hrow, hrowop, hbits⟩ := exists_row_of_mem_usedFields hp
    have hiff := unusedZero_iff row (cmdFields w)
    rw [word_cmdFields, hbits] at hiff
    rw [decodeCommand_of_mem hrow (hrowop.trans hop)]
    exact ⟨fun hzero => ⟨_, if_pos (hiff.2 hzero)⟩, fun hne => if_neg (hne ∘ hiff.1)⟩

/-- Settles O1: each word is taken apart by its row. -/
theorem specWordsDecode : Obligations.SpecWordsDecode := by
  unfold Obligations.SpecWordsDecode
  exact ⟨rfl, rfl, rfl, rfl, rfl, rfl, rfl, rfl, rfl, rfl, rfl, rfl, rfl⟩

end Sys2Proof.Claims
end

section
/-! Dispatch (spec/44_dispatch.md R180-R187): what each slot instruction runs, the three ends of a dispatch, the
write-back field by field, then the statements about handlers. -/
namespace Sys2Proof.Machine
open Sys2Proof.Claims

/-! What a slot instruction runs (R79-R81). -/

theorem exec_ofSlot (k : SlotIndex) (f : IwOperands) (s : State) :
    exec (Instr.ofSlot k f) s = s.dispatch (iwWord k f) := by
  fin_cases k <;> rfl

theorem exec_dispatch (s : State) : exec .dispatch s = s.dispatch s.din.i := rfl

theorem exec_decodeSlotWord (w : Word32) (s : State) : exec (decodeSlotWord w) s = s.dispatch w := by
  rw [decodeSlotWord, exec_ofSlot, iwWord_ofWord]

/-! The write-back (R180, R182). -/

theorem writeBack_eq (c : Context) (vd : VReg) (out : HandlerOut) :
    c.writeBack vd out =
      { (c.writeVr vd out.result).writeAccLanes out.acc with
        vco := out.vco.getD c.vco
        wvco := if out.vco.isSome then Vector.replicate 16 true else c.wvco
        vcc := out.vcc.getD c.vcc
        wvcc := if out.vcc.isSome then Vector.replicate 16 true else c.wvcc
        vce := out.vce.getD c.vce
        wvce := if out.vce.isSome then Vector.replicate 8 true else c.wvce } := by
  obtain ⟨result, acc, vco, vcc, vce⟩ := out
  cases vco <;> cases vcc <;> cases vce <;> rfl

theorem writeBack_accLane (c : Context) (vd : VReg) (out : HandlerOut) (i : Lane) :
    (c.writeBack vd out).accLane i = (out.acc[i]).getD (c.accLane i) := by
  rw [writeBack_eq]
  exact accLane_writeAccLanes (c.writeVr vd out.result) out.acc i

/-- The marks of a register that is overwritten whole or not at all. -/
theorem ite_replicate_getElem {n : Nat} (b : Bool) (w : Vector Bool n) (k : Fin n) :
    (if b then Vector.replicate n true else w)[k] = (b || w[k]) := by
  cases b <;> simp

theorem set_getElem_fin {α : Type} {n : Nat} (v : Vector α n) (j i : Fin n) (x : α) :
    (v.set j x)[i] = if i = j then x else v[i] := by
  simp only [Fin.getElem_fin, Vector.getElem_set, Fin.ext_iff, eq_comm]

theorem set_replicate_getElem (w : Vector (Vector Bool 8) 32) (rd r : VReg) (i : Lane) :
    (w.set rd (Vector.replicate 8 true))[r][i] = (decide (r = rd) || w[r][i]) := by
  rw [set_getElem_fin]
  by_cases h : r = rd <;> simp [h]

theorem wroteBack_writeBack (s : State) (vd : VReg) (out : HandlerOut) :
    WroteBack s { s with ctx := s.ctx.writeBack vd out, dout := {} } vd out := by
  refine ⟨rfl, fun r => ⟨?_, fun i => ?_⟩, fun i => ⟨writeBack_accLane s.ctx vd out i, ?_⟩, ?_, fun k => ?_, ?_,
    fun k => ?_, ?_, fun k => ?_⟩ <;> simp only [writeBack_eq]
  · exact set_getElem_fin _ _ _ _
  · exact set_replicate_getElem _ _ _ _
  · exact lanes_getElem _ i i.isLt
  all_goals exact ite_replicate_getElem _ _ k

/-! The three ends of a dispatch (R180). -/

section
variable {s : State} {iw : Word32}

theorem dispatch_of_none (h : handlerAt s.cfg (slotOfWord iw) = none) :
    s.dispatch iw = .next (s.raise (.unimplementedOpcode (slotOfWord iw) iw)) := by
  simp only [State.dispatch, dispatchEffect, h, conclude_eq, settle_error]

theorem dispatch_of_fault {h : Handler} {reason : HandlerFaultReason}
    (hh : handlerAt s.cfg (slotOfWord iw) = some h) (hr : h (handlerIn s.cfg iw s.ctx) = .fault reason) :
    s.dispatch iw = .next (s.raise (.handlerFault (slotOfWord iw) reason)) := by
  simp only [State.dispatch, dispatchEffect, hh, hr, conclude_eq, settle_error]

theorem dispatch_of_ok {h : Handler} {out : HandlerOut} (hh : handlerAt s.cfg (slotOfWord iw) = some h)
    (ho : h (handlerIn s.cfg iw s.ctx) = .ok out) :
    s.dispatch iw = .next { s with ctx := s.ctx.writeBack (operandsOfWord iw).vd out, dout := {} } := by
  simp only [State.dispatch, dispatchEffect, hh, ho]
  rfl

end

/-- The three ends together, as the statements give them. -/
theorem dispatch_ends (s : State) (iw : Word32) :
    (handlerAt s.cfg (slotOfWord iw) = none →
      s.dispatch iw = .next (s.raise (.unimplementedOpcode (slotOfWord iw) iw))) ∧
    (∀ h, handlerAt s.cfg (slotOfWord iw) = some h →
      (∀ reason, h (handlerIn s.cfg iw s.ctx) = .fault reason →
        s.dispatch iw = .next (s.raise (.handlerFault (slotOfWord iw) reason))) ∧
      (∀ out, h (handlerIn s.cfg iw s.ctx) = .ok out →
        ∃ t, s.dispatch iw = .next t ∧ WroteBack s t (operandsOfWord iw).vd out)) :=
  ⟨dispatch_of_none, fun _ hh => ⟨fun _ => dispatch_of_fault hh,
    fun out ho => ⟨_, dispatch_of_ok hh ho, wroteBack_writeBack s _ out⟩⟩⟩

/-! What a handler is given (R182, R186, R187). -/

@[simp] theorem maybeVr_getElem (c : Context) (r : VReg) (k : Nat) (h : k < 8) :
    (c.maybeVr r)[k] = if c.wvr[r][k] then some c.vr[r][k] else none := by
  simp [Context.maybeVr]

@[simp] theorem maybeAcc_getElem (c : Context) (k : Nat) (h : k < 8) :
    c.maybeAcc[k] = if c.wacc[k] then some (c.accLane ⟨k, h⟩) else none := by
  simp [Context.maybeAcc]

@[simp] theorem maybeVco_getElem (c : Context) (k : Nat) (h : k < 16) :
    c.maybeVco[k] = if c.wvco[k] then some (c.vco.getLsbD k) else none := by
  simp only [Context.maybeVco, Vector.getElem_ofFn]
  rfl

@[simp] theorem maybeVcc_getElem (c : Context) (k : Nat) (h : k < 16) :
    c.maybeVcc[k] = if c.wvcc[k] then some (c.vcc.getLsbD k) else none := by
  simp only [Context.maybeVcc, Vector.getElem_ofFn]
  rfl

@[simp] theorem maybeVce_getElem (c : Context) (k : Nat) (h : k < 8) :
    c.maybeVce[k] = if c.wvce[k] then some (c.vce.getLsbD k) else none := by
  simp only [Context.maybeVce, Vector.getElem_ofFn]
  rfl

/-- A field within bits 24:0 is the same in words that agree there. -/
theorem extractLsb'_eq_of_low {x y : Word32} (h : x.extractLsb' 0 25 = y.extractLsb' 0 25) {start len : Nat}
    (hin : start + len ≤ 25) : x.extractLsb' start len = y.extractLsb' start len := by
  have hfield := congrArg (BitVec.extractLsb' start len) h
  rwa [extractLsb'_extractLsb' _ hin, extractLsb'_extractLsb' _ hin, Nat.zero_add] at hfield

theorem slotOfWord_eq_of_low {x y : Word32} (h : x.extractLsb' 0 25 = y.extractLsb' 0 25) :
    slotOfWord x = slotOfWord y :=
  congrArg BitVec.toFin (extractLsb'_eq_of_low h (by decide))

theorem operandsOfWord_eq_of_low {x y : Word32} (h : x.extractLsb' 0 25 = y.extractLsb' 0 25) :
    { operandsOfWord x with major := 0 } = { operandsOfWord y with major := 0 } := by
  simp only [operandsOfWord, IwOperands.mk.injEq, true_and]
  exact ⟨congrArg BitVec.toFin (extractLsb'_eq_of_low h (by decide)),
    congrArg BitVec.toFin (extractLsb'_eq_of_low h (by decide)),
    congrArg BitVec.toFin (extractLsb'_eq_of_low h (by decide)),
    congrArg BitVec.toFin (extractLsb'_eq_of_low h (by decide))⟩

end Sys2Proof.Machine

namespace Sys2Proof.Claims
open Sys2Proof.Machine

/-- Settles O54: both dispatch the word on `DIN_I`. -/
theorem dispatchRunsItsSlotInstruction : Obligations.DispatchRunsItsSlotInstruction := by
  unfold Obligations.DispatchRunsItsSlotInstruction
  intro s
  rw [exec_dispatch, exec_decodeSlotWord]

/-- Settles O52: DISPATCH dispatches the word on `DIN_I`. -/
theorem dispatchRule : Obligations.DispatchRule := by
  unfold Obligations.DispatchRule
  exact ⟨rfl, fun s => dispatch_ends s s.din.i⟩

/-- Settles O53: the instruction of slot `k` dispatches the word of slot `k` with its operands. -/
theorem slotInstructionRule : Obligations.SlotInstructionRule := by
  unfold Obligations.SlotInstructionRule
  intro k f s
  have hends := dispatch_ends s (iwWord k f)
  rw [slotOfWord_iwWord, operandsOfWord_iwWord] at hends
  rw [exec_ofSlot]
  exact hends

/-- Settles O55: a lane or bit of the input is `some` exactly where its mark is set. -/
theorem handlerInputRule : Obligations.HandlerInputRule := by
  unfold Obligations.HandlerInputRule
  intro cfg iw c
  refine ⟨rfl, fun i => ⟨maybeVr_getElem c _ i i.isLt, maybeVr_getElem c _ i i.isLt, ?_, maybeAcc_getElem c i i.isLt,
    maybeVce_getElem c i i.isLt⟩, fun k => ⟨maybeVco_getElem c k k.isLt, maybeVcc_getElem c k k.isLt⟩⟩
  rintro j rfl
  exact (shuffle_getElem _ _ _ i i.isLt).trans (maybeVr_getElem c _ _ (Fin.isLt _))

/-- Settles O56: the slot and the operands a handler's input is made from lie within bits 24:0. -/
theorem highBitsNotExamined : Obligations.HighBitsNotExamined := by
  unfold Obligations.HighBitsNotExamined
  intro cfg x y c h
  have hops := operandsOfWord_eq_of_low h
  refine ⟨slotOfWord_eq_of_low h, hops, ?_⟩
  obtain ⟨-, he, hvt, hvs, hvd⟩ := IwOperands.mk.inj hops
  simp only [handlerIn, he, hvt, hvs, hvd]

/-- Settles O57: the handler gives the same answer on the filled input, so both dispatches write it back. -/
theorem dispatchIgnoresUnwritten : Obligations.DispatchIgnoresUnwritten := by
  unfold Obligations.DispatchIgnoresUnwritten
  intro s u h out hh hreads hcfg hdin hfills hout
  have hout' := hreads _ _ out hfills hout
  rw [hdin] at hout'
  have hh' : handlerAt u.cfg (slotOfWord s.din.i) = some h := by rw [hcfg, hh]
  have hword : exec .dispatch u = u.dispatch s.din.i := by rw [exec_dispatch, hdin]
  exact ⟨_, _, dispatch_of_ok hh hout, hword.trans (dispatch_of_ok hh' hout'),
    wroteBack_writeBack s _ out, wroteBack_writeBack u _ out⟩

end Sys2Proof.Claims
end

section
/-! Steps, runs and records (spec/30_encoding.md R70, spec/60_exceptions.md R201-R205, spec/70_reset_and_hazards.md
R230-R232): what an instruction and a step leave, how a run goes on, then the statements about them. -/
namespace Sys2Proof.Machine

/-! What a raised fault leaves (R203, R204). -/

theorem diag_isSome_iff (f : CommandFault) :
    f.diag.isSome = true ↔ ∃ slot iw, f = .unimplementedOpcode slot iw := by
  cases f <;> simp [CommandFault.diag]

/-! What an instruction leaves. -/

/-- Every instruction answers a next state and leaves the host's list. -/
theorem exec_next (i : Instr) (s : State) : ∃ t, exec i s = .next t ∧ t.pending = s.pending := by
  rcases exec_cases i s with ⟨f, h⟩ | ⟨eff, -, -, -, h⟩
  · exact ⟨_, h, rfl⟩
  · exact ⟨_, h, rfl⟩

/-- The commands still to come play no part in an instruction (R59). -/
theorem exec_with_pending {i : Instr} {s t : State} (h : exec i s = .next t) (p : List Request) :
    exec i { s with pending := p } = .next { t with pending := p } := by
  obtain ⟨r, hr, hdep⟩ := exec_depends i s
  obtain rfl : s.settle r = t := Host.Outcome.next.inj (hr.symm.trans h)
  rw [hdep { s with pending := p } rfl rfl rfl]
  cases r <;> rfl

/-! What a step does with the next command. -/

section
variable {s : State} {r : Request} {rest : List Request}

theorem step_of_nil (hp : s.pending = []) : step s = .fault .noCommand := by
  simp only [step, hp]

theorem step_of_fetch_ok {i : Instr} (hp : s.pending = r :: rest) (hf : r.fetch = .ok i) :
    step s = exec i (s.accept r rest) := by
  simp only [step, hp, hf]

theorem step_of_fetch_error {q : CommandRefusal} (hp : s.pending = r :: rest) (hf : r.fetch = .error q) :
    step s = .next ((s.accept r rest).refuse q) := by
  simp only [step, hp, hf]

theorem fetch_own (h : r.driver = .own) : r.fetch = decodeCommand r.word := by
  simp only [Request.fetch, h]

theorem fetch_other (h : r.driver = .other) : r.fetch = .error .sharedContext := by
  simp only [Request.fetch, h]

theorem decodeCommand_dispatchWord : decodeCommand dispatchWord = .ok .dispatch := rfl

/-- A step with a command answers a next state and takes that command from the list. -/
theorem step_next (hp : s.pending = r :: rest) : ∃ t, step s = .next t ∧ t.pending = rest := by
  cases hf : r.fetch with
  | error q => exact ⟨_, step_of_fetch_error hp hf, rfl⟩
  | ok i =>
    rw [step_of_fetch_ok hp hf]
    exact exec_next i (s.accept r rest)

/-- What follows a command in the list plays no part in its step (R59). -/
theorem step_with_pending {t : State} (h : step { s with pending := r :: rest } = .next t) (rest' : List Request) :
    step { s with pending := r :: rest' } = .next { t with pending := rest' } := by
  cases hf : r.fetch with
  | error q =>
    rw [step_of_fetch_error rfl hf] at h ⊢
    cases h
    rfl
  | ok i =>
    rw [step_of_fetch_ok rfl hf] at h ⊢
    exact exec_with_pending h rest'

/-- A step refuses its command, raises a fault, or leaves what the instruction wrote. -/
theorem step_ends {t : State} (h : step s = .next t) : ∃ r rest, s.pending = r :: rest ∧
    ((∃ q, t = (s.accept r rest).refuse q) ∨ (∃ f, t = (s.accept r rest).raise f) ∨
      ∃ eff : Effect, eff.out.report = none ∧
        t = { s.accept r rest with ctx := eff.ctx, dout := eff.out }) := by
  obtain ⟨r, rest, hp, ⟨q, -, ht⟩ | ⟨i, -, he⟩⟩ := step_cases h
  · exact ⟨r, rest, hp, .inl ⟨q, ht⟩⟩
  · rcases exec_cases i (s.accept r rest) with ⟨f, h⟩ | ⟨eff, -, hr, -, h⟩
    · exact ⟨r, rest, hp, .inr (.inl ⟨f, Host.Outcome.next.inj (he.symm.trans h)⟩)⟩
    · exact ⟨r, rest, hp, .inr (.inr ⟨eff, hr, Host.Outcome.next.inj (he.symm.trans h)⟩)⟩

end

/-! Runs (R232). -/

theorem runToEnd_of_nil {s : State} (hp : s.pending = []) : s.runToEnd = .next s := by
  rw [State.runToEnd, hp]
  rfl

theorem runToEnd_of_step {s t : State} {r : Request} {rest : List Request} (hp : s.pending = r :: rest)
    (h : step s = .next t) : s.runToEnd = t.runToEnd := by
  have hrest : t.pending = rest := by
    obtain ⟨u, hu, hpend⟩ := step_next hp
    rwa [← Host.Outcome.next.inj (hu.symm.trans h)]
  simp only [State.runToEnd, hp, hrest, List.length_cons]
  exact run_next core h

theorem runToEnd_completes (cmds : List Request) :
    ∀ s : State, s.pending = cmds → ∃ t, s.runToEnd = .next t ∧ t.pending = [] := by
  induction cmds with
  | nil => exact fun s hp => ⟨s, runToEnd_of_nil hp, hp⟩
  | cons r rest ih =>
    intro s hp
    obtain ⟨u, hu, hrest⟩ := step_next hp
    rw [runToEnd_of_step hp hu]
    exact ih u hrest

theorem runToEnd_append (first later : List Request) : ∀ s t : State,
    { s with pending := first }.runToEnd = .next t →
    { s with pending := first ++ later }.runToEnd = { t with pending := later }.runToEnd := by
  induction first with
  | nil =>
    intro s t h
    rw [runToEnd_of_nil rfl] at h
    cases h
    rfl
  | cons r rest ih =>
    intro s t h
    obtain ⟨u, hu, hrest⟩ := step_next (s := { s with pending := r :: rest }) rfl
    rw [runToEnd_of_step rfl hu] at h
    rw [List.cons_append, runToEnd_of_step rfl (step_with_pending hu (rest ++ later))]
    refine ih u t ?_
    rwa [← hrest]

end Sys2Proof.Machine

namespace Sys2Proof.Claims
open Sys2Proof.Machine

/-- Settles O13: a refusal and a fault set their own record and leave the other; an effect leaves both. -/
theorem recordsAreSticky : Obligations.RecordsAreSticky := by
  unfold Obligations.RecordsAreSticky
  intro s t h
  obtain ⟨r, rest, -, ⟨q, rfl⟩ | ⟨f, rfl⟩ | ⟨eff, -, rfl⟩⟩ := step_ends h
  · exact ⟨id, fun _ => stickyReport_isSome _ _⟩
  · exact ⟨fun _ => stickyReport_isSome _ _, id⟩
  · exact ⟨id, id⟩

/-- Settles O14: the report of a refusal and of a fault is set together with its record; an effect reports nothing. -/
theorem reportsStayOnRecord : Obligations.ReportsStayOnRecord := by
  unfold Obligations.ReportsStayOnRecord
  intro s t h
  obtain ⟨r, rest, -, ⟨q, rfl⟩ | ⟨f, rfl⟩ | ⟨eff, hr, rfl⟩⟩ := step_ends h
  · exact ⟨fun ⟨_, hf⟩ => (by cases hf), fun _ => stickyReport_isSome _ _⟩
  · exact ⟨fun _ => stickyReport_isSome _ _, fun ⟨_, hq⟩ => (by cases hq)⟩
  · exact ⟨fun ⟨_, hf⟩ => (by cases hr.symm.trans hf), fun ⟨_, hq⟩ => (by cases hr.symm.trans hq)⟩

/-- Settles O15: none of the three ends of a step writes the configuration. -/
theorem configurationNeverChanges : Obligations.ConfigurationNeverChanges := by
  unfold Obligations.ConfigurationNeverChanges
  intro s t h
  obtain ⟨r, rest, -, ⟨q, rfl⟩ | ⟨f, rfl⟩ | ⟨eff, -, rfl⟩⟩ := step_ends h <;> rfl

/-- Settles O12: an instruction raises a fault, which writes the record and the ports, or leaves an effect, which
writes the context and the ports. -/
theorem faultingInstructionWritesNothing : Obligations.FaultingInstructionWritesNothing := by
  unfold Obligations.FaultingInstructionWritesNothing
  intro i s
  rcases exec_cases i s with ⟨f, h⟩ | ⟨eff, -, hr, -, h⟩
  · refine ⟨_, h, .inl ⟨f, rfl, rfl, fun hnone => ?_, stickyReport_isSome _ _⟩⟩
    rw [raise_fault, hnone, stickyReport_none]
  · exact ⟨_, h, .inr ⟨hr, rfl, rfl⟩⟩

/-- Settles O8, by induction on the list of commands. -/
theorem everyRunCompletes : Obligations.EveryRunCompletes := by
  unfold Obligations.EveryRunCompletes
  exact fun s => runToEnd_completes s.pending s rfl

/-- Settles O9, by induction on the first part of the list. -/
theorem commandsRunInIssueOrder : Obligations.CommandsRunInIssueOrder := by
  unfold Obligations.CommandsRunInIssueOrder
  exact fun s t first later => runToEnd_append first later s t

/-- Settles O10: a command word is placed as it is; an instruction word is placed on `DIN_I` of a DISPATCH, which runs
the instruction it decodes to. -/
theorem tableWordRunsItsInstruction : Obligations.TableWordRunsItsInstruction := by
  unfold Obligations.TableWordRunsItsInstruction
  intro s n i h
  simp only [decodeTableWord, tableWord] at h
  simp only [State.withFetchWord, tableWord]
  generalize BitVec.ofNat 32 (n % 2 ^ 32) = w at h ⊢
  cases hd : decodeCommand w with
  | ok j =>
    simp only [hd, decodeWord] at h
    obtain rfl : j = i := by simpa using h
    refine ⟨s.din, ?_, rfl, rfl, rfl, rfl⟩
    rw [step_of_fetch_ok (r := requestOf s.din (.command w)) rfl hd]
    rfl
  | error q =>
    simp only [hd, decodeWord] at h
    obtain rfl : decodeSlotWord w = i := by simpa using h
    refine ⟨{ s.din with i := w }, ?_, rfl, rfl, rfl, rfl⟩
    rw [exec_decodeSlotWord, step_of_fetch_ok (r := requestOf s.din (.slotWord w)) rfl decodeCommand_dispatchWord]
    rfl

/-- Settles O5: the own driver's word is decoded, and its instruction executed. -/
theorem stepRunsDecodedCommand : Obligations.StepRunsDecodedCommand := by
  unfold Obligations.StepRunsDecodedCommand
  intro s r rest i hp hown hd
  exact step_of_fetch_ok hp ((fetch_own hown).trans hd)

/-- Settles O6: a second driver is refused before its word is decoded. -/
theorem refusedCommandWritesNothing : Obligations.RefusedCommandWritesNothing := by
  unfold Obligations.RefusedCommandWritesNothing
  intro s r rest q hp hq
  have hf : r.fetch = .error q := by
    rcases hq with ⟨hother, rfl⟩ | ⟨hown, hd⟩
    · exact fetch_other hother
    · exact (fetch_own hown).trans hd
  refine ⟨_, step_of_fetch_error hp hf, rfl, fun hnone => ?_, stickyReport_isSome _ _⟩
  rw [refuse_refused, accept_refused, hnone, stickyReport_none]

/-- Settles O7: with a command in the list a step answers a next state. -/
theorem noCommandNoProgress : Obligations.NoCommandNoProgress := by
  unfold Obligations.NoCommandNoProgress
  intro s
  refine ⟨fun h => ?_, step_of_nil⟩
  cases hp : s.pending with
  | nil => rfl
  | cons r rest =>
    obtain ⟨t, ht, -⟩ := step_next hp
    cases h.symm.trans ht

/-- Settles O11: a fault writes its record and the ports. -/
theorem raiseSetsOnlyTheRecord : Obligations.RaiseSetsOnlyTheRecord := by
  unfold Obligations.RaiseSetsOnlyTheRecord
  intro s f
  refine ⟨rfl, fun hnone => ?_, stickyReport_isSome _ _, rfl, rfl, rfl, rfl, rfl, diag_isSome_iff f⟩
  rw [raise_fault, hnone, stickyReport_none]

end Sys2Proof.Claims
end

section
/-! What one instruction can do, with what it says of the instruction: the effects by kind, the faults by kind, and the
one case split over the instructions that every statement about all of them rests on. `Leaves` gives the effect of each
instruction, but not its faults, nor the instructions of an effect. -/
namespace Sys2Proof.Machine
open Sys2Proof.Claims

/-- The effects instruction `i` can have in `s`, by kind; each kind says which instructions have it. -/
inductive EffectOf (i : Instr) (s : State) : Effect → Prop where
  | vr (rd : VReg) (v : Vec) (hi : destination i s = some rd) : EffectOf i s { ctx := s.ctx.writeVr rd v }
  | flagByte (f : FlagField) (b : BitVec 8) (rs : VReg)
      (hi : i ∈ [Instr.xwrCo rs, .xwrNe rs, .xwrLt rs, .xwrGe rs, .xwrCe rs]) :
      EffectOf i s { ctx := s.ctx.writeFlagByte f b }
  | vco (v : Word16) (hi : i = .setvco) : EffectOf i s { ctx := s.ctx.writeVco v }
  | vcc (v : Word16) (hi : i = .setvcc) : EffectOf i s { ctx := s.ctx.writeVcc v }
  | vce (v : BitVec 8) (hi : i = .setvce) : EffectOf i s { ctx := s.ctx.writeVce v }
  | accLanes (a : Vector (Option Word48) 8) (hi : i = .accwr ∨ ∃ lane, i = .accwrl lane) :
      EffectOf i s { ctx := s.ctx.writeAccLanes a }
  | readV (x : BitVec 128) (hi : ∃ rs, i = .vread rs) : EffectOf i s { ctx := s.ctx, out := { v := some x } }
  | readP (x : Word16) (hi : i = .getvco ∨ i = .getvcc ∨ i = .getvce) :
      EffectOf i s { ctx := s.ctx, out := { p := some x } }
  | readA (x : Word48) (hi : ∃ lane, i = .accrdl lane) : EffectOf i s { ctx := s.ctx, out := { a := some x } }
  | readAcc (x : BitVec 384) (hi : i = .accrd) : EffectOf i s { ctx := s.ctx, out := { acc := some x } }
  | created (hi : i = .reset) : EffectOf i s { ctx := Context.created s.cfg.resetPolicy }
  | back (vd : VReg) (out : HandlerOut) (hi : i = .dispatch ∨ isSlot i = true) (hd : destination i s = some vd) :
      EffectOf i s { ctx := s.ctx.writeBack vd out }

/-- The faults instruction `i` can raise in `s`: a read names an unwritten element, and only a dispatch raises a fault
of the handler table. -/
def FaultOf (i : Instr) (s : State) : CommandFault → Prop
  | .readBeforeWrite el => s.ctx.written el = false
  | .nonCanonicalFlagLane _ _ => True
  | .unimplementedOpcode _ _ => i = .dispatch ∨ isSlot i = true
  | .handlerFault _ _ => i = .dispatch ∨ isSlot i = true

/-- `r` is an end that instruction `i` can come to in `s`. -/
def EndOf (i : Instr) (s : State) : Except CommandFault Effect → Prop
  | .error f => FaultOf i s f
  | .ok eff => EffectOf i s eff

section
variable {i : Instr} {s : State}

/-! Each guarded read faults on an unwritten element or goes on. -/

theorem endOf_require {els : List Element} {k : Unit → Except CommandFault Effect} (h : EndOf i s (k ())) :
    EndOf i s (s.ctx.require els >>= k) := by
  rcases require_cases s.ctx els with hr | ⟨el, -, hel, hr⟩ <;> rw [hr]
  · exact h
  · exact hel

theorem endOf_readVr {r : VReg} {k : Vec → Except CommandFault Effect} (h : ∀ v, EndOf i s (k v)) :
    EndOf i s (s.ctx.readVr r >>= k) := by
  rw [Context.readVr, bind_assoc]
  exact endOf_require (h _)

theorem endOf_readMask {r : VReg} {k : BitVec 8 → Except CommandFault Effect} (h : ∀ b, EndOf i s (k b)) :
    EndOf i s (s.ctx.readMask r >>= k) := by
  rw [Context.readMask, bind_assoc]
  refine endOf_readVr fun v => ?_
  split
  · exact trivial
  · exact h _

theorem endOf_lanewise {f : Word16 → Word16 → Word16} {rd rs : VReg} (hi : destination i s = some rd) :
    EndOf i s (s.ctx.lanewise f rd rs) :=
  endOf_readVr fun _ => endOf_readVr fun _ => EffectOf.vr rd _ hi

theorem endOf_readExpanded {f : FlagField} {rd : VReg} (hi : destination i s = some rd) :
    EndOf i s (s.ctx.readExpanded f rd) :=
  endOf_require (EffectOf.vr rd _ hi)

theorem endOf_writeExpanded {f : FlagField} {rs : VReg}
    (hi : i ∈ [Instr.xwrCo rs, .xwrNe rs, .xwrLt rs, .xwrGe rs, .xwrCe rs]) :
    EndOf i s (s.ctx.writeExpanded f rs) :=
  endOf_readMask fun b => EffectOf.flagByte f b rs hi

theorem endOf_dispatch {iw : Word32} (hi : i = .dispatch ∨ isSlot i = true)
    (hd : destination i s = some (operandsOfWord iw).vd) : EndOf i s (dispatchEffect s.cfg iw s.ctx) := by
  unfold dispatchEffect
  split
  · exact hi
  · split
    · exact hi
    · exact EffectOf.back _ _ hi hd

theorem IsPackedRead.endOf {n : Nat} {el : Fin n → Element} {p : Context → Word16} (h : IsPackedRead i el p)
    (hi : i = .getvco ∨ i = .getvcc ∨ i = .getvce) : ∃ r, exec i s = s.conclude r ∧ EndOf i s r :=
  ⟨_, h s, endOf_require (EffectOf.readP _ hi)⟩

end

/-- Every instruction concludes with one of its ends. -/
theorem exec_endOf (i : Instr) (s : State) : ∃ r, exec i s = s.conclude r ∧ EndOf i s r := by
  cases i
  case vcopy => exact ⟨_, rfl, endOf_readVr fun _ => .vr _ _ rfl⟩
  case vwipe | vfill | vwrite => exact ⟨_, rfl, EffectOf.vr _ _ rfl⟩
  case vand | vor | vxor | vcmplt | vcmpeq | vcmpgt => exact ⟨_, rfl, endOf_lanewise rfl⟩
  case vshuf => exact ⟨_, rfl, endOf_require (.vr _ _ rfl)⟩
  case vread rs => exact ⟨_, rfl, endOf_readVr fun _ => .readV _ ⟨rs, rfl⟩⟩
  case getvco => exact isPackedRead_getvco.endOf (.inl rfl)
  case getvcc => exact isPackedRead_getvcc.endOf (.inr (.inl rfl))
  case getvce => exact isPackedRead_getvce.endOf (.inr (.inr rfl))
  case setvco => exact ⟨_, rfl, EffectOf.vco _ rfl⟩
  case setvcc => exact ⟨_, rfl, EffectOf.vcc _ rfl⟩
  case setvce => exact ⟨_, rfl, EffectOf.vce _ rfl⟩
  case xrdCo | xrdNe | xrdLt | xrdGe | xrdCe => exact ⟨_, rfl, endOf_readExpanded rfl⟩
  case xwrCo | xwrNe | xwrLt | xwrGe | xwrCe => exact ⟨_, rfl, endOf_writeExpanded (by simp)⟩
  case accrd => exact ⟨_, rfl, endOf_require (.readAcc _ rfl)⟩
  case accwr => exact ⟨_, rfl, EffectOf.accLanes _ (.inl rfl)⟩
  case accrdl lane => exact ⟨_, rfl, endOf_require (.readA _ ⟨lane, rfl⟩)⟩
  case accwrl lane => exact ⟨_, rfl, EffectOf.accLanes _ (.inr ⟨lane, rfl⟩)⟩
  case reset => exact ⟨_, rfl, EffectOf.created rfl⟩
  case dispatch => exact ⟨_, rfl, endOf_dispatch (.inl rfl) rfl⟩
  all_goals exact ⟨_, rfl, endOf_dispatch (.inr rfl) rfl⟩

/-- An instruction that answers `t` raised one of its faults or had one of its effects. -/
theorem exec_next_endOf {i : Instr} {s t : State} (h : exec i s = .next t) :
    (∃ f, FaultOf i s f ∧ t = s.raise f) ∨
      ∃ eff, EffectOf i s eff ∧ t = { s with ctx := eff.ctx, dout := eff.out } := by
  obtain ⟨r, hr, hend⟩ := exec_endOf i s
  obtain rfl : s.settle r = t := Host.Outcome.next.inj (hr.symm.trans h)
  cases r with
  | error f => exact .inl ⟨f, hend, rfl⟩
  | ok eff => exact .inr ⟨eff, hend, rfl⟩

/-! The effects a class of instructions cannot have. -/

theorem destination_of_isRead {i : Instr} (s : State) (h : isRead i = true) : destination i s = none := by
  unfold isRead at h
  split at h
  case h_7 => cases h
  all_goals rfl

end Sys2Proof.Machine
end

section
/-! Frames and marks (spec/10_state.md R23, R27, R39, R43, spec/30_encoding.md R75, spec/43_flags.md R168): which writes
keep the marks, then the statements about all instructions. -/
namespace Sys2Proof.Machine
open Sys2Proof.Claims

/-! A write sets marks and clears none (R39). -/

section
variable {c : Context} {el : Element} (h : c.written el = true)
include h

theorem writeVr_keeps_mark (r : VReg) (v : Vec) : (c.writeVr r v).written el = true := by
  cases el with
  | vr r' i =>
    have hw : c.wvr[r'][i] = true := h
    exact (set_replicate_getElem c.wvr r r' i).trans (by rw [hw, Bool.or_true])
  | _ => exact h

theorem writeAccLanes_keeps_mark (a : Vector (Option Word48) 8) : (c.writeAccLanes a).written el = true := by
  cases el with
  | acc i =>
    have hw : c.wacc[i] = true := h
    exact (lanes_getElem _ i i.isLt).trans (by rw [hw, Bool.or_true])
  | _ => exact h

theorem writeVco_keeps_mark (v : Word16) : (c.writeVco v).written el = true := by
  cases el with
  | vco k => exact Vector.getElem_replicate k.isLt
  | _ => exact h

theorem writeVcc_keeps_mark (v : Word16) : (c.writeVcc v).written el = true := by
  cases el with
  | vcc k => exact Vector.getElem_replicate k.isLt
  | _ => exact h

theorem writeVce_keeps_mark (v : BitVec 8) : (c.writeVce v).written el = true := by
  cases el with
  | vce k => exact Vector.getElem_replicate k.isLt
  | _ => exact h

theorem writeFlagByte_keeps_mark (f : FlagField) (b : BitVec 8) : (c.writeFlagByte f b).written el = true := by
  have hlow (w : Vector Bool 16) (k : Fin 16) (hk : w[k] = true) : (markLow w)[k] = true :=
    (markLow_getElem w k k.isLt).trans (Bool.or_eq_true_iff.2 (.inr hk))
  have hhigh (w : Vector Bool 16) (k : Fin 16) (hk : w[k] = true) : (markHigh w)[k] = true :=
    (markHigh_getElem w k k.isLt).trans (Bool.or_eq_true_iff.2 (.inr hk))
  cases el with
  | vr | acc => cases f <;> exact h
  | vco k =>
    cases f with
    | co => exact hlow _ k h
    | ne => exact hhigh _ k h
    | lt | ge | ce => exact h
  | vcc k =>
    cases f with
    | lt => exact hlow _ k h
    | ge => exact hhigh _ k h
    | co | ne | ce => exact h
  | vce k =>
    cases f with
    | ce => exact Vector.getElem_replicate k.isLt
    | co | ne | lt | ge => exact h

theorem writeBack_keeps_mark (vd : VReg) (out : HandlerOut) : (c.writeBack vd out).written el = true := by
  have hacc := writeAccLanes_keeps_mark (writeVr_keeps_mark h vd out.result) out.acc
  obtain ⟨result, acc, vco, vcc, vce⟩ := out
  have hvco : (((c.writeVr vd result).writeAccLanes acc).overwriteVco vco).written el = true := by
    cases vco with
    | none => exact hacc
    | some v => exact writeVco_keeps_mark hacc v
  have hvcc : ((((c.writeVr vd result).writeAccLanes acc).overwriteVco vco).overwriteVcc vcc).written el = true := by
    cases vcc with
    | none => exact hvco
    | some v => exact writeVcc_keeps_mark hvco v
  cases vce with
  | none => exact hvcc
  | some v => exact writeVce_keeps_mark hvcc v

end

theorem EffectOf.keeps_mark {i : Instr} {s : State} {eff : Effect} {el : Element} (h : EffectOf i s eff)
    (hi : i ≠ .reset) (hel : s.ctx.written el = true) : eff.ctx.written el = true := by
  cases h with
  | vr rd v => exact writeVr_keeps_mark hel rd v
  | flagByte f b => exact writeFlagByte_keeps_mark hel f b
  | vco v => exact writeVco_keeps_mark hel v
  | vcc v => exact writeVcc_keeps_mark hel v
  | vce v => exact writeVce_keeps_mark hel v
  | accLanes a => exact writeAccLanes_keeps_mark hel a
  | readV | readP | readA | readAcc => exact hel
  | created hreset => exact absurd hreset hi
  | back vd out => exact writeBack_keeps_mark hel vd out

/-- An instruction other than RESET keeps every mark, whether it faults or not (R39). -/
theorem exec_keeps_mark {i : Instr} {s t : State} {el : Element} (h : exec i s = .next t) (hi : i ≠ .reset)
    (hel : s.ctx.written el = true) : t.ctx.written el = true := by
  rcases exec_next_endOf h with ⟨f, -, rfl⟩ | ⟨eff, heff, rfl⟩
  · exact hel
  · exact heff.keeps_mark hi hel

/-- Under `ZERO` no instruction clears a mark: RESET sets them all (R220). -/
theorem exec_keeps_allWritten {i : Instr} {s t : State} (h : exec i s = .next t) (hz : s.cfg.resetPolicy = .zero)
    (hall : s.ctx.AllWritten) : t.ctx.AllWritten := by
  intro el
  by_cases hi : i = .reset
  · subst hi
    rw [exec_reset] at h
    cases h
    rw [created_written, hz]
    rfl
  · exact exec_keeps_mark h hi (hall el)

theorem writeBack_vr_of_ne {c : Context} {vd r : VReg} {out : HandlerOut} (h : vd ≠ r) :
    (c.writeBack vd out).vr[r] = c.vr[r] ∧ (c.writeBack vd out).wvr[r] = c.wvr[r] := by
  rw [writeBack_eq]
  have hne : vd.val ≠ r.val := fun e => h (Fin.ext e)
  exact ⟨Vector.getElem_set_ne vd.isLt r.isLt hne, Vector.getElem_set_ne vd.isLt r.isLt hne⟩

/-- A read leaves the context (R58). -/
theorem EffectOf.ctx_of_isRead {i : Instr} {s : State} {eff : Effect} (h : EffectOf i s eff) (hi : isRead i = true) :
    eff.ctx = s.ctx := by
  have hdest := destination_of_isRead s hi
  cases h with
  | readV | readP | readA | readAcc => rfl
  | vr rd v hd => cases hdest.symm.trans hd
  | back vd out hs hd => cases hdest.symm.trans hd
  | flagByte f b rs hx =>
    simp only [List.mem_cons, List.not_mem_nil, or_false] at hx
    rcases hx with rfl | rfl | rfl | rfl | rfl <;> cases hi
  | accLanes a ha => rcases ha with rfl | ⟨lane, rfl⟩ <;> cases hi
  | vco v hx | vcc v hx | vce v hx | created hx => subst hx; cases hi

end Sys2Proof.Machine

namespace Sys2Proof.Claims
open Sys2Proof.Machine

/-- Settles O19: a refusal and a fault leave the marks; an instruction keeps them, or is RESET, which sets them. -/
theorem zeroPolicyKeepsAllWritten : Obligations.ZeroPolicyKeepsAllWritten := by
  unfold Obligations.ZeroPolicyKeepsAllWritten
  intro s t hz hall h
  refine ⟨(congrArg Config.resetPolicy (configurationNeverChanges s t h)).trans hz, ?_⟩
  obtain ⟨r, rest, -, ⟨q, -, rfl⟩ | ⟨i, -, he⟩⟩ := step_cases h
  · exact hall
  · exact exec_keeps_allWritten he hz hall

/-- Settles O21: a read before write would name an unwritten element. -/
theorem allWrittenNeverReadsBeforeWrite : Obligations.AllWrittenNeverReadsBeforeWrite := by
  unfold Obligations.AllWrittenNeverReadsBeforeWrite
  intro s t el hall h hrep
  obtain ⟨r, rest, -, ⟨q, -, rfl⟩ | ⟨i, -, he⟩⟩ := step_cases h
  · cases hrep
  · rcases exec_next_endOf he with ⟨f, hf, rfl⟩ | ⟨eff, heff, rfl⟩
    · cases hrep
      exact absurd (hall el) (Bool.eq_false_iff.1 hf)
    · cases heff <;> cases hrep

/-- Settles O22: the writes keep the marks, and only RESET does anything else. -/
theorem onlyResetClearsMarks : Obligations.OnlyResetClearsMarks := by
  unfold Obligations.OnlyResetClearsMarks
  exact fun i s t el hi h hel => exec_keeps_mark h hi hel

/-- Settles O30: every other kind of effect leaves the accumulator. -/
theorem accumulatorWriters : Obligations.AccumulatorWriters := by
  unfold Obligations.AccumulatorWriters
  intro i s t h haccwr haccwrl hreset hdispatch hslot
  have hsame : SameAcc s.ctx s.ctx := ⟨rfl, rfl, rfl, rfl⟩
  rcases exec_next_endOf h with ⟨f, -, rfl⟩ | ⟨eff, heff, rfl⟩
  · exact hsame
  · cases heff with
    | vr | vco | vcc | vce | readV | readP | readA | readAcc => exact hsame
    | flagByte f => cases f <;> exact hsame
    | accLanes a hi => exact absurd hi (by simp [haccwr, haccwrl])
    | created hi => exact absurd hi hreset
    | back vd out hi => exact absurd hi (by simp [hdispatch, hslot])

/-- Settles O51: every other kind of effect leaves the flag registers. -/
theorem flagWriters : Obligations.FlagWriters := by
  unfold Obligations.FlagWriters
  intro i s t h hvco hvcc hvce hxwr hreset hdispatch hslot
  have hsame : SameFlags s.ctx s.ctx := ⟨rfl, rfl, rfl, rfl, rfl, rfl⟩
  rcases exec_next_endOf h with ⟨f, -, rfl⟩ | ⟨eff, heff, rfl⟩
  · exact hsame
  · cases heff with
    | vr | accLanes | readV | readP | readA | readAcc => exact hsame
    | flagByte f b rs hi => exact absurd hi (by simp [hxwr rs])
    | vco v hi => exact absurd hi hvco
    | vcc v hi => exact absurd hi hvcc
    | vce v hi => exact absurd hi hvce
    | created hi => exact absurd hi hreset
    | back vd out hi => exact absurd hi (by simp [hdispatch, hslot])

/-- Settles O31: a register is written as the destination of its instruction only. -/
theorem otherRegistersUnchanged : Obligations.OtherRegistersUnchanged := by
  unfold Obligations.OtherRegistersUnchanged
  intro i s t r h hreset hdest
  rcases exec_next_endOf h with ⟨f, -, rfl⟩ | ⟨eff, heff, rfl⟩
  · exact ⟨rfl, rfl⟩
  · cases heff with
    | vr rd v hd =>
      have hne : r ≠ rd := fun e => hdest (by rw [e, hd])
      exact ⟨wroteVr_vr_of_ne (s := s) (v := v) hne, wroteVr_wvr_of_ne (s := s) (v := v) hne⟩
    | vco | vcc | vce | accLanes | readV | readP | readA | readAcc => exact ⟨rfl, rfl⟩
    | flagByte f => cases f <;> exact ⟨rfl, rfl⟩
    | created hi => exact absurd hi hreset
    | back vd out hi hd => exact writeBack_vr_of_ne fun e => hdest (by rw [← e, hd])

/-- Settles O32: a read leaves the context its answer depends on. -/
theorem readsHaveNoSideEffects : Obligations.ReadsHaveNoSideEffects := by
  unfold Obligations.ReadsHaveNoSideEffects
  intro i s hi
  obtain ⟨r, hr, hdep⟩ := exec_depends i s
  have hctx : (s.settle r).ctx = s.ctx := by
    rcases exec_next_endOf hr with ⟨f, -, ht⟩ | ⟨eff, heff, ht⟩ <;> rw [ht]
    · rfl
    · exact heff.ctx_of_isRead hi
  have hcfg : (s.settle r).cfg = s.cfg := by cases r <;> rfl
  have hdin : (s.settle r).din = s.din := by cases r <;> rfl
  refine ⟨_, hr, hctx, _, hdep _ hcfg hctx hdin, ?_, ?_⟩
  · cases r with
    | error f => rfl
    | ok eff => exact hctx
  · cases r <;> rfl

/-- Settles O33: each port is driven by one kind of effect, and `DIAG` by one fault. -/
theorem portsDrivenOnlyByTheirCommands : Obligations.PortsDrivenOnlyByTheirCommands := by
  unfold Obligations.PortsDrivenOnlyByTheirCommands
  intro i s t h
  rcases exec_next_endOf h with ⟨f, hf, rfl⟩ | ⟨eff, heff, rfl⟩
  · refine ⟨nofun, nofun, nofun, nofun, fun hdiag => ?_⟩
    obtain ⟨slot, iw, rfl⟩ := (diag_isSome_iff f).1 hdiag
    exact hf
  · cases heff with
    | readV x hi => exact ⟨fun _ => hi, nofun, nofun, nofun, nofun⟩
    | readP x hi => exact ⟨nofun, fun _ => hi, nofun, nofun, nofun⟩
    | readA x hi => exact ⟨nofun, nofun, fun _ => hi, nofun, nofun⟩
    | readAcc x hi => exact ⟨nofun, nofun, nofun, fun _ => hi, nofun⟩
    | _ => exact ⟨nofun, nofun, nofun, nofun, nofun⟩

/-- Settles O18: the default configuration has the policy `UNWRITTEN`, under which no mark is set at creation. -/
theorem resetStateValues : Obligations.ResetStateValues := by
  unfold Obligations.ResetStateValues
  exact ⟨rfl, created_written .unwritten, rfl, rfl, rfl, rfl⟩

/-- Settles O20: the marks of a new context are set under `ZERO`. -/
theorem zeroCreationAllWritten : Obligations.ZeroCreationAllWritten := by
  unfold Obligations.ZeroCreationAllWritten
  intro cfg hz
  refine ⟨hz, fun el => ?_⟩
  rw [State.created, created_written, hz]
  rfl

end Sys2Proof.Claims
end

section
/-! What can be observed of a context (spec/10_state.md R39): the view after each write is made from the view before it,
each guarded read answers from the view, and so does every instruction. -/
namespace Sys2Proof.Machine
open Sys2Proof.Claims

/-! The view after a write. -/

theorem maybeVr_writeVr (c : Context) (r r' : VReg) (v : Vec) :
    (c.writeVr r v).maybeVr r' = if r' = r then v.map some else c.maybeVr r' := by
  by_cases hr : r' = r
  · subst hr
    exact vec_ext fun i => by simp
  · have hne : r.val ≠ r'.val := fun e => hr (Fin.ext e.symm)
    exact vec_ext fun i => by simp [hr, hne]

theorem maybeAcc_writeAccLanes (c : Context) (a : Vector (Option Word48) 8) :
    (c.writeAccLanes a).maybeAcc = lanes fun i => a[i].or c.maybeAcc[i] := by
  refine vec_ext fun i => ?_
  simp only [Fin.getElem_fin, maybeAcc_getElem, lanes_getElem, accLane_writeAccLanes, writeAccLanes_wacc]
  cases a[i.val] <;> simp

theorem maybeVco_writeVco (c : Context) (v : Word16) :
    (c.writeVco v).maybeVco = Vector.ofFn fun k => some (v.getLsbD k) :=
  vec_ext fun k => by simp

theorem maybeVcc_writeVcc (c : Context) (v : Word16) :
    (c.writeVcc v).maybeVcc = Vector.ofFn fun k => some (v.getLsbD k) :=
  vec_ext fun k => by simp

theorem maybeVce_writeVce (c : Context) (v : BitVec 8) :
    (c.writeVce v).maybeVce = Vector.ofFn fun k => some (v.getLsbD k) :=
  vec_ext fun k => by simp

/-- The bits of a 16-bit flag register of which the low byte was written. -/
theorem maybe_lowByte (old : Word16) (b : BitVec 8) (w : Vector Bool 16) (k : Fin 16) :
    (if (markLow w)[k] then some ((old.extractLsb' 8 8 ++ b).getLsbD k) else none) =
      if k.val < 8 then some (b.getLsbD k) else if w[k] then some (old.getLsbD k) else none := by
  rw [BitVec.getLsbD_append]
  by_cases hk : k.val < 8
  · simp [hk]
  · have hsub : k.val - 8 < 8 := by omega
    have hadd : 8 + (k.val - 8) = k.val := by omega
    simp [hk, hsub, hadd]

/-- The bits of a 16-bit flag register of which the high byte was written. -/
theorem maybe_highByte (old : Word16) (b : BitVec 8) (w : Vector Bool 16) (k : Fin 16) :
    (if (markHigh w)[k] then some ((b ++ old.extractLsb' 0 8).getLsbD k) else none) =
      if k.val < 8 then (if w[k] then some (old.getLsbD k) else none) else some (b.getLsbD (k - 8)) := by
  rw [BitVec.getLsbD_append]
  by_cases hk : k.val < 8
  · simp [hk, Nat.not_le.2 hk]
  · simp [hk, Nat.not_lt.1 hk]

/-! Contexts with the same view. -/

theorem ite_some_eq_iff {α : Type} {p q : Bool} {x y : α} :
    (if p then some x else none) = (if q then some y else none) ↔ p = q ∧ (p = true → x = y) := by
  cases p <;> cases q <;> simp

theorem Context.SameView.refl (c : Context) : c.SameView c := ⟨fun _ => rfl, rfl, rfl, rfl, rfl⟩

section
variable {c d : Context} (h : c.SameView d)
include h

theorem Context.SameView.vr_lane (r : VReg) (i : Lane) :
    c.wvr[r][i] = d.wvr[r][i] ∧ (c.wvr[r][i] = true → c.vr[r][i] = d.vr[r][i]) := by
  have hi := congrArg (fun v : MaybeVec => v[i]) (h.vr r)
  simpa [ite_some_eq_iff] using hi

theorem Context.SameView.acc_lane (i : Lane) :
    c.wacc[i] = d.wacc[i] ∧ (c.wacc[i] = true → c.accLane i = d.accLane i) := by
  have hi := congrArg (fun v : Vector (Option Word48) 8 => v[i]) h.acc
  simpa [ite_some_eq_iff] using hi

theorem Context.SameView.vco_bit (k : Fin 16) :
    c.wvco[k] = d.wvco[k] ∧ (c.wvco[k] = true → c.vco.getLsbD k = d.vco.getLsbD k) := by
  have hk := congrArg (fun v : Vector (Option Bool) 16 => v[k]) h.vco
  simpa [ite_some_eq_iff] using hk

theorem Context.SameView.vcc_bit (k : Fin 16) :
    c.wvcc[k] = d.wvcc[k] ∧ (c.wvcc[k] = true → c.vcc.getLsbD k = d.vcc.getLsbD k) := by
  have hk := congrArg (fun v : Vector (Option Bool) 16 => v[k]) h.vcc
  simpa [ite_some_eq_iff] using hk

theorem Context.SameView.vce_bit (k : Fin 8) :
    c.wvce[k] = d.wvce[k] ∧ (c.wvce[k] = true → c.vce.getLsbD k = d.vce.getLsbD k) := by
  have hk := congrArg (fun v : Vector (Option Bool) 8 => v[k]) h.vce
  simpa [ite_some_eq_iff] using hk

theorem Context.SameView.written_eq : c.written = d.written := by
  funext el
  cases el with
  | vr r i => exact (h.vr_lane r i).1
  | acc i => exact (h.acc_lane i).1
  | vco k => exact (h.vco_bit k).1
  | vcc k => exact (h.vcc_bit k).1
  | vce k => exact (h.vce_bit k).1

/-! Writes of the same value keep the views the same. -/

theorem Context.SameView.writeVr (r : VReg) (v : Vec) : (c.writeVr r v).SameView (d.writeVr r v) :=
  ⟨fun r' => by rw [maybeVr_writeVr, maybeVr_writeVr, h.vr r'], h.acc, h.vco, h.vcc, h.vce⟩

theorem Context.SameView.writeAccLanes (a : Vector (Option Word48) 8) :
    (c.writeAccLanes a).SameView (d.writeAccLanes a) :=
  ⟨h.vr, by rw [maybeAcc_writeAccLanes, maybeAcc_writeAccLanes, h.acc], h.vco, h.vcc, h.vce⟩

theorem Context.SameView.writeVco (v : Word16) : (c.writeVco v).SameView (d.writeVco v) :=
  ⟨h.vr, h.acc, by rw [maybeVco_writeVco, maybeVco_writeVco], h.vcc, h.vce⟩

theorem Context.SameView.writeVcc (v : Word16) : (c.writeVcc v).SameView (d.writeVcc v) :=
  ⟨h.vr, h.acc, h.vco, by rw [maybeVcc_writeVcc, maybeVcc_writeVcc], h.vce⟩

theorem Context.SameView.writeVce (v : BitVec 8) : (c.writeVce v).SameView (d.writeVce v) :=
  ⟨h.vr, h.acc, h.vco, h.vcc, by rw [maybeVce_writeVce, maybeVce_writeVce]⟩

theorem Context.SameView.writeFlagByte (f : FlagField) (b : BitVec 8) :
    (c.writeFlagByte f b).SameView (d.writeFlagByte f b) := by
  have hvco (k : Fin 16) := ite_some_eq_iff.2 (h.vco_bit k)
  have hvcc (k : Fin 16) := ite_some_eq_iff.2 (h.vcc_bit k)
  cases f with
  | co =>
    refine ⟨h.vr, h.acc, congrArg Vector.ofFn (funext fun k => ?_), h.vcc, h.vce⟩
    exact (maybe_lowByte _ _ _ k).trans (Eq.trans (by rw [hvco]) (maybe_lowByte _ _ _ k).symm)
  | ne =>
    refine ⟨h.vr, h.acc, congrArg Vector.ofFn (funext fun k => ?_), h.vcc, h.vce⟩
    exact (maybe_highByte _ _ _ k).trans (Eq.trans (by rw [hvco]) (maybe_highByte _ _ _ k).symm)
  | lt =>
    refine ⟨h.vr, h.acc, h.vco, congrArg Vector.ofFn (funext fun k => ?_), h.vce⟩
    exact (maybe_lowByte _ _ _ k).trans (Eq.trans (by rw [hvcc]) (maybe_lowByte _ _ _ k).symm)
  | ge =>
    refine ⟨h.vr, h.acc, h.vco, congrArg Vector.ofFn (funext fun k => ?_), h.vce⟩
    exact (maybe_highByte _ _ _ k).trans (Eq.trans (by rw [hvcc]) (maybe_highByte _ _ _ k).symm)
  | ce => exact h.writeVce b

theorem Context.SameView.overwriteVco (o : Option Word16) : (c.overwriteVco o).SameView (d.overwriteVco o) := by
  cases o with
  | none => exact h
  | some v => exact h.writeVco v

theorem Context.SameView.overwriteVcc (o : Option Word16) : (c.overwriteVcc o).SameView (d.overwriteVcc o) := by
  cases o with
  | none => exact h
  | some v => exact h.writeVcc v

theorem Context.SameView.overwriteVce (o : Option (BitVec 8)) : (c.overwriteVce o).SameView (d.overwriteVce o) := by
  cases o with
  | none => exact h
  | some v => exact h.writeVce v

theorem Context.SameView.writeBack (vd : VReg) (out : HandlerOut) :
    (c.writeBack vd out).SameView (d.writeBack vd out) :=
  ((((h.writeVr vd out.result).writeAccLanes out.acc).overwriteVco out.vco).overwriteVcc out.vcc).overwriteVce out.vce

/-! Values under set marks are the same. -/

theorem Context.SameView.vr_eq {r : VReg} (hw : ∀ i : Lane, c.wvr[r][i] = true) : c.vr[r] = d.vr[r] :=
  vec_ext fun i => (h.vr_lane r i).2 (hw i)

theorem Context.SameView.accPort_eq (hw : ∀ i : Lane, c.wacc[i] = true) :
    accPort c.accH c.accM c.accL = accPort d.accH d.accM d.accL := by
  have hlane (i : Lane) : c.accLane i = d.accLane i := (h.acc_lane i).2 (hw i)
  have hH : c.accH = d.accH := vec_ext fun i => by simpa [Context.accLane] using congrArg sliceH (hlane i)
  have hM : c.accM = d.accM := vec_ext fun i => by simpa [Context.accLane] using congrArg sliceM (hlane i)
  have hL : c.accL = d.accL := vec_ext fun i => by simpa [Context.accLane] using congrArg sliceL (hlane i)
  rw [hH, hM, hL]

theorem Context.SameView.flagByte_eq {f : FlagField} (hw : ∀ i : Lane, c.written (f.element i) = true) :
    c.flagByte f = d.flagByte f := by
  refine BitVec.eq_of_getLsbD_eq fun k hk => ?_
  have hbit (i : Lane) : (c.flagByte f).getLsbD i = (d.flagByte f).getLsbD i := by
    cases f with
    | co => simpa [Context.flagByte] using (h.vco_bit _).2 (hw i)
    | ne => simpa [Context.flagByte, Nat.add_comm] using (h.vco_bit _).2 (hw i)
    | lt => simpa [Context.flagByte] using (h.vcc_bit _).2 (hw i)
    | ge => simpa [Context.flagByte, Nat.add_comm] using (h.vcc_bit _).2 (hw i)
    | ce => exact (h.vce_bit i).2 (hw i)
  exact hbit ⟨k, hk⟩

theorem Context.SameView.handlerIn_eq (cfg : Config) (iw : Word32) : handlerIn cfg iw c = handlerIn cfg iw d := by
  simp only [handlerIn, h.vr, h.acc, h.vco, h.vcc, h.vce]

end

/-! Ends with the same view. -/

/-- The same fault, or the same ports and contexts with the same view. -/
def SameEnd : Except CommandFault Effect → Except CommandFault Effect → Prop
  | .error f, .error f' => f = f'
  | .ok e, .ok e' => e.ctx.SameView e'.ctx ∧ e.out = e'.out
  | _, _ => False

theorem sameView_settle {s t : State} {r r' : Except CommandFault Effect} (h : s.SameView t) (hr : SameEnd r r') :
    (s.settle r).SameView (t.settle r') := by
  cases r with
  | error f =>
    cases r' with
    | error f' =>
      cases hr
      exact ⟨h.cfg, h.ctx, congrArg (stickyReport · f) h.fault, h.refused, h.din, rfl, h.pending⟩
    | ok e' => cases hr
  | ok e =>
    cases r' with
    | error f' => cases hr
    | ok e' => exact ⟨h.cfg, hr.1, h.fault, h.refused, h.din, hr.2, h.pending⟩

section
variable {c d : Context} (h : c.SameView d)
include h

theorem Context.SameView.require_bind {els : List Element} {k k' : Unit → Except CommandFault Effect}
    (hk : (∀ el ∈ els, c.written el = true) → SameEnd (k ()) (k' ())) :
    SameEnd (c.require els >>= k) (d.require els >>= k') := by
  have hreq : d.require els = c.require els := by simp only [Context.require, h.written_eq]
  rw [hreq]
  rcases require_cases c els with hok | ⟨el, -, -, herr⟩
  · rw [hok]
    exact hk ((require_ok_iff c els).1 hok)
  · rw [herr]
    rfl

theorem Context.SameView.readVr_bind {r : VReg} {k k' : Vec → Except CommandFault Effect}
    (hk : ∀ v, SameEnd (k v) (k' v)) : SameEnd (c.readVr r >>= k) (d.readVr r >>= k') := by
  rw [Context.readVr, Context.readVr, bind_assoc, bind_assoc]
  refine h.require_bind fun hw => ?_
  rw [h.vr_eq fun i => hw (.vr r i) (by simp [vrElements])]
  exact hk _

theorem Context.SameView.readMask_bind {r : VReg} {k k' : BitVec 8 → Except CommandFault Effect}
    (hk : ∀ b, SameEnd (k b) (k' b)) : SameEnd (c.readMask r >>= k) (d.readMask r >>= k') := by
  rw [Context.readMask, Context.readMask, bind_assoc, bind_assoc]
  refine h.readVr_bind fun v => ?_
  split
  · rfl
  · exact hk _

theorem Context.SameView.lanewise (f : Word16 → Word16 → Word16) (rd rs : VReg) :
    SameEnd (c.lanewise f rd rs) (d.lanewise f rd rs) :=
  h.readVr_bind fun _ => h.readVr_bind fun _ => ⟨h.writeVr rd _, rfl⟩

theorem Context.SameView.readExpanded (f : FlagField) (rd : VReg) :
    SameEnd (c.readExpanded f rd) (d.readExpanded f rd) := by
  refine h.require_bind fun hw => ?_
  rw [h.flagByte_eq fun i => hw _ (List.mem_map_of_mem (List.mem_finRange i))]
  exact ⟨h.writeVr rd _, rfl⟩

theorem Context.SameView.writeExpanded (f : FlagField) (rs : VReg) :
    SameEnd (c.writeExpanded f rs) (d.writeExpanded f rs) :=
  h.readMask_bind fun b => ⟨h.writeFlagByte f b, rfl⟩

theorem Context.SameView.shuffle (rows : ElementRows) (rd rs : VReg) (e : ElementCode) :
    SameEnd (do c.require (shuffleElements rows rs e); return { ctx := c.writeVr rd (Machine.shuffle rows c.vr[rs] e) })
      (do d.require (shuffleElements rows rs e); return { ctx := d.writeVr rd (Machine.shuffle rows d.vr[rs] e) }) := by
  refine h.require_bind fun hw => ?_
  have hlane (i : Lane) : c.vr[rs][(elementRow rows e)[i]] = d.vr[rs][(elementRow rows e)[i]] :=
    (h.vr_lane rs _).2 (hw (.vr rs _) (by simp [shuffleElements_eq_map]))
  have hv : Machine.shuffle rows c.vr[rs] e = Machine.shuffle rows d.vr[rs] e := congrArg lanes (funext hlane)
  rw [hv]
  exact ⟨h.writeVr rd _, rfl⟩

theorem Context.SameView.packedRead {n : Nat} {el : Fin n → Element} {p : Context → Word16}
    (hp : (∀ k, c.written (el k) = true) → p c = p d) :
    SameEnd (do c.require ((List.finRange n).map el); return { ctx := c, out := { p := some (p c) } })
      (do d.require ((List.finRange n).map el); return { ctx := d, out := { p := some (p d) } }) := by
  refine h.require_bind fun hw => ?_
  rw [hp fun k => hw _ (List.mem_map_of_mem (List.mem_finRange k))]
  exact ⟨h, rfl⟩

theorem Context.SameView.dispatch (cfg : Config) (iw : Word32) :
    SameEnd (dispatchEffect cfg iw c) (dispatchEffect cfg iw d) := by
  unfold dispatchEffect
  rw [h.handlerIn_eq cfg iw]
  split
  · rfl
  · split
    · rfl
    · exact ⟨h.writeBack _ _, rfl⟩

end

/-- Every instruction comes to the same end in states with the same view. -/
theorem exec_sameEnd (i : Instr) {s t : State} (hst : s.SameView t) :
    ∃ r r', exec i s = s.conclude r ∧ exec i t = t.conclude r' ∧ SameEnd r r' := by
  obtain ⟨cfg, c, fault, refused, din, dout, pending⟩ := s
  obtain ⟨cfg', d, fault', refused', din', dout', pending'⟩ := t
  obtain ⟨hcfg, h, -, -, hdin, -, -⟩ := hst
  subst hcfg hdin
  cases i
  case vcopy => exact ⟨_, _, rfl, rfl, h.readVr_bind fun _ => ⟨h.writeVr _ _, rfl⟩⟩
  case vwipe | vfill | vwrite => exact ⟨_, _, rfl, rfl, h.writeVr _ _, rfl⟩
  case vand | vor | vxor | vcmplt | vcmpeq | vcmpgt => exact ⟨_, _, rfl, rfl, h.lanewise _ _ _⟩
  case vshuf => exact ⟨_, _, rfl, rfl, h.shuffle _ _ _ _⟩
  case vread => exact ⟨_, _, rfl, rfl, h.readVr_bind fun _ => ⟨h, rfl⟩⟩
  case getvco =>
    exact ⟨_, _, isPackedRead_getvco _, isPackedRead_getvco _, h.packedRead fun hw =>
      BitVec.eq_of_getLsbD_eq fun k hk => (h.vco_bit ⟨k, hk⟩).2 (hw _)⟩
  case getvcc =>
    exact ⟨_, _, isPackedRead_getvcc _, isPackedRead_getvcc _, h.packedRead fun hw =>
      BitVec.eq_of_getLsbD_eq fun k hk => (h.vcc_bit ⟨k, hk⟩).2 (hw _)⟩
  case getvce =>
    exact ⟨_, _, isPackedRead_getvce _, isPackedRead_getvce _,
      h.packedRead (el := .vce) (p := fun c => 0#8 ++ c.vce) fun hw =>
        congrArg (0#8 ++ ·) (BitVec.eq_of_getLsbD_eq fun k hk => (h.vce_bit ⟨k, hk⟩).2 (hw _))⟩
  case setvco => exact ⟨_, _, rfl, rfl, h.writeVco _, rfl⟩
  case setvcc => exact ⟨_, _, rfl, rfl, h.writeVcc _, rfl⟩
  case setvce => exact ⟨_, _, rfl, rfl, h.writeVce _, rfl⟩
  case xrdCo | xrdNe | xrdLt | xrdGe | xrdCe => exact ⟨_, _, rfl, rfl, h.readExpanded _ _⟩
  case xwrCo | xwrNe | xwrLt | xwrGe | xwrCe => exact ⟨_, _, rfl, rfl, h.writeExpanded _ _⟩
  case accrd =>
    refine ⟨_, _, rfl, rfl, h.require_bind fun hw => ⟨h, ?_⟩⟩
    rw [h.accPort_eq fun i => hw (.acc i) (List.mem_map_of_mem (List.mem_finRange i))]
  case accwr | accwrl => exact ⟨_, _, rfl, rfl, h.writeAccLanes _, rfl⟩
  case accrdl lane =>
    refine ⟨_, _, rfl, rfl, h.require_bind fun hw => ⟨h, ?_⟩⟩
    rw [(h.acc_lane lane).2 (hw (.acc lane) (List.mem_singleton.2 rfl))]
  case reset => exact ⟨_, _, rfl, rfl, Context.SameView.refl _, rfl⟩
  case dispatch => exact ⟨_, _, rfl, rfl, h.dispatch _ _⟩
  all_goals exact ⟨_, _, rfl, rfl, h.dispatch _ _⟩

end Sys2Proof.Machine

namespace Sys2Proof.Claims
open Sys2Proof.Machine

/-- Settles O23: the guarded reads answer from the view, and the writes make the view after from the view before. -/
theorem unwrittenValuesAreUnobservable : Obligations.UnwrittenValuesAreUnobservable := by
  unfold Obligations.UnwrittenValuesAreUnobservable
  intro i s t h
  obtain ⟨r, r', hs, ht, hsame⟩ := exec_sameEnd i h
  exact ⟨_, _, hs, ht, sameView_settle h hsame⟩

end Sys2Proof.Claims
end

section
/-! Laws that the spec derives from its rules (R25, R85, R107, R134, R146, R167): what a write leaves for the read that
follows, the complement by VFILL and VXOR, the default element table, and the flags through their expanded form. -/
namespace Sys2Proof.Machine
open Sys2Proof.Claims

/-! The accumulator (R25, R107). -/

theorem written_acc_writeAccLanes {c : Context} {a : Vector (Option Word48) 8} {i : Lane} (h : a[i].isSome = true) :
    (c.writeAccLanes a).wacc[i] = true :=
  (lanes_getElem _ i i.isLt).trans (Bool.or_eq_true_iff.2 (.inl h))

/-- What ACCWR stores is what stood on the port (R102, R103). -/
theorem accPort_writeAccLanes (c : Context) (x : BitVec 384) :
    accPort (c.writeAccLanes (accOfPort x)).accH (c.writeAccLanes (accOfPort x)).accM
      (c.writeAccLanes (accOfPort x)).accL = x := by
  have hH : (c.writeAccLanes (accOfPort x)).accH = bitsVec (x.extractLsb' 256 128) :=
    vec_ext fun i => by simp [accOfPort]
  have hM : (c.writeAccLanes (accOfPort x)).accM = bitsVec (x.extractLsb' 128 128) :=
    vec_ext fun i => by simp [accOfPort]
  have hL : (c.writeAccLanes (accOfPort x)).accL = bitsVec (x.extractLsb' 0 128) :=
    vec_ext fun i => by simp [accOfPort]
  rw [hH, hM, hL, accPort, vecBits_bitsVec, vecBits_bitsVec, vecBits_bitsVec, append_extract_acc]

theorem accWord_toInt (h m l : Word16) :
    (accWord h m l).toInt = h.toInt * 2 ^ 32 + (m.toNat : Int) * 2 ^ 16 + (l.toNat : Int) := by
  rw [accWord, BitVec.toInt_append, BitVec.toInt_append]
  simp
  omega

/-! One register as both operands (R134). -/

theorem fullVr_wroteVr_self (s : State) (r : VReg) (v : Vec) : FullVr (wroteVr s r v).ctx r := fun i =>
  (set_replicate_getElem s.ctx.wvr r r i).trans (by simp)

theorem IsLanewise.exec_self {i : Instr} {f : Word16 → Word16 → Word16} {r : VReg} {s : State}
    (hi : IsLanewise i f r r) (hr : FullVr s.ctx r) (v : Vec)
    (hv : ∀ k : Lane, f s.ctx.vr[r][k] s.ctx.vr[r][k] = v[k]) : exec i s = .next (wroteVr s r v) := by
  rw [hi.exec_full hr hr, show (fun k : Lane => f s.ctx.vr[r][k] s.ctx.vr[r][k]) = fun k => v[k] from funext hv,
    lanes_of_get]

/-! Sequences (R85). -/

theorem execAll_cons {i : Instr} {s t : State} (h : exec i s = .next t) (rest : List Instr) :
    execAll (i :: rest) s = execAll rest t := by
  simp only [execAll, h]

theorem expandPseudo_eq_none {p : Pseudo} (h : p.wellFormed = false) : expandPseudo p = none :=
  if_neg (by simp [h])

/-- `t` is `s` with the complement of `VR[vd]` in `vd`, all-ones in `vt`, and nothing else of the context and the fault
record changed. -/
def Complemented (s t : State) (vd vt : VReg) : Prop :=
  (∀ k : Lane, t.ctx.vr[vd][k] = ~~~ s.ctx.vr[vd][k]) ∧ t.ctx.vr[vt] = Vector.replicate 8 0xFFFF ∧
    (∀ r, r ≠ vd → r ≠ vt → t.ctx.vr[r] = s.ctx.vr[r]) ∧ SameAccAndFlags t.ctx s.ctx ∧ t.fault = s.fault

/-- VFILL of a scratch register and VXOR with it complement a register. -/
theorem execAll_complement {vd vt : VReg} {s : State} (hne : vt ≠ vd) (hd : FullVr s.ctx vd) :
    ∃ t, execAll [.vfill vt, .vxor vd vt] s = .next t ∧ Complemented s t vd vt := by
  have hd' : FullVr (wroteVr s vt (Vector.replicate 8 0xFFFF)).ctx vd := fun i => by
    rw [wroteVr_wvr_of_ne hne.symm]
    exact hd i
  have hx := (isLanewise_vxor vd vt).exec_full hd' (fullVr_wroteVr_self s vt _)
  refine ⟨_, (execAll_cons (exec_vfill vt s) _).trans (execAll_cons hx []), fun k => ?_, ?_, fun r hrd hrt => ?_,
    ⟨rfl, rfl, rfl, rfl, rfl, rfl, rfl, rfl, rfl, rfl⟩, rfl⟩
  · rw [wroteVr_lane_self, wroteVr_vr_of_ne hne.symm, wroteVr_vr_self]
    exact (congrArg _ (Vector.getElem_replicate k.isLt)).trans BitVec.xor_allOnes
  · rw [wroteVr_vr_of_ne hne, wroteVr_vr_self]
  · rw [wroteVr_vr_of_ne hrd, wroteVr_vr_of_ne hrt]

/-- A compare, then the complement of its mask (R130). -/
theorem execAll_compare_complement {i : Instr} {rel : Int → Int → Bool} {vd vs vt : VReg} {s : State}
    (hi : IsLanewise i (fun a b => bool16 (rel a.toInt b.toInt)) vd vs) (hne : vt ≠ vd) (hd : FullVr s.ctx vd)
    (hs : FullVr s.ctx vs) :
    ∃ t, execAll [i, .vfill vt, .vxor vd vt] s = .next t ∧
      (∀ k : Lane, t.ctx.vr[vd][k] = if !rel s.ctx.vr[vd][k].toInt s.ctx.vr[vs][k].toInt then 0xFFFF else 0x0000) ∧
      t.ctx.vr[vt] = Vector.replicate 8 0xFFFF ∧ (∀ r, r ≠ vd → r ≠ vt → t.ctx.vr[r] = s.ctx.vr[r]) ∧
      SameAccAndFlags t.ctx s.ctx ∧ t.fault = s.fault := by
  obtain ⟨t, ht, hvd, hvt, hother, hsame, hfault⟩ := execAll_complement hne (fullVr_wroteVr_self s vd _)
  refine ⟨t, (execAll_cons (hi.exec_full hd hs) _).trans ht, fun k => ?_, hvt, fun r hrd hrt => ?_, hsame, hfault⟩
  · rw [hvd, wroteVr_lane_self]
    cases rel s.ctx.vr[vd][k].toInt s.ctx.vr[vs][k].toInt <;> rfl
  · rw [hother r hrd hrt, wroteVr_vr_of_ne hrd]

/-- With the scratch register as destination the sequence clears it. -/
theorem execAll_fill_xor_self (vd : VReg) (s : State) :
    ∃ t, execAll [.vfill vd, .vxor vd vd] s = .next t ∧ t.ctx.vr[vd] = Vector.replicate 8 0x0000 := by
  have hx := (isLanewise_vxor vd vd).exec_self (fullVr_wroteVr_self s vd (Vector.replicate 8 0xFFFF))
    (Vector.replicate 8 0x0000) fun k => by simp
  exact ⟨_, (execAll_cons (exec_vfill vd s) _).trans (execAll_cons hx []), wroteVr_vr_self _ _ _⟩

/-! The default element table (R146). -/

theorem defaultElementRow_idempotent :
    ∀ (e : ElementCode) (i : Lane),
      (elementRow Config.defaultElementRows e)[(elementRow Config.defaultElementRows e)[i]] =
        (elementRow Config.defaultElementRows e)[i] := by
  decide

/-! Flags through their expanded form (R167). -/

theorem isExpandedRead_xrdCo (rd : VReg) : IsExpandedRead (.xrdCo rd) .co rd := fun _ => rfl
theorem isExpandedRead_xrdNe (rd : VReg) : IsExpandedRead (.xrdNe rd) .ne rd := fun _ => rfl
theorem isExpandedRead_xrdLt (rd : VReg) : IsExpandedRead (.xrdLt rd) .lt rd := fun _ => rfl
theorem isExpandedRead_xrdGe (rd : VReg) : IsExpandedRead (.xrdGe rd) .ge rd := fun _ => rfl
theorem isExpandedRead_xrdCe (rd : VReg) : IsExpandedRead (.xrdCe rd) .ce rd := fun _ => rfl

theorem flagByte_writeFlagByte_self (c : Context) (f : FlagField) (b : BitVec 8) :
    (c.writeFlagByte f b).flagByte f = b := by
  cases f with
  | co | lt => exact BitVec.extractLsb'_append_eq_right
  | ne | ge => exact BitVec.extractLsb'_append_eq_left
  | ce => rfl

theorem written_writeFlagByte_self (c : Context) (f : FlagField) (b : BitVec 8) (i : Lane) :
    (c.writeFlagByte f b).written (f.element i) = true := by
  cases f with
  | co | lt => exact (markLow_getElem _ _ _).trans (by simp)
  | ne | ge => exact (markHigh_getElem _ _ _).trans (by simp)
  | ce => exact Vector.getElem_replicate i.isLt

theorem expand_packMask {m : Vec} (h : Canonical m) : expand (packMask m) = m := by
  refine vec_ext fun i => ?_
  rw [expand_lane, packMask_getLsbD m i i.isLt]
  rcases h i with hi | hi <;> simp only [Fin.getElem_fin] at hi ⊢ <;> simp [hi]

theorem canonical_expand (b : BitVec 8) : Canonical (expand b) := fun i => by
  rw [expand_lane]
  cases b.getLsbD i
  · exact .inr rfl
  · exact .inl rfl

/-- XWR then XRD of a field gives a canonical mask back. -/
theorem execAll_xwr_xrd {i j : Instr} {f : FlagField} {vs vd : VReg} {s : State} (hi : IsExpandedWrite i f vs)
    (hj : IsExpandedRead j f vd) (hfull : FullVr s.ctx vs) (hcan : Canonical s.ctx.vr[vs]) :
    ∃ t, execAll [i, j] s = .next t ∧ t.ctx.vr[vd] = s.ctx.vr[vs] ∧ t.fault = s.fault := by
  have hw := hi.exec_of_ok (readMask_of_canonical hfull hcan)
  have hr := hj.exec_of_written (s := { s with ctx := s.ctx.writeFlagByte f (packMask s.ctx.vr[vs]), dout := {} })
    fun k => written_writeFlagByte_self _ f _ k
  refine ⟨_, (execAll_cons hw _).trans (execAll_cons hr []), ?_, rfl⟩
  rw [wroteVr_vr_self]
  exact (congrArg expand (flagByte_writeFlagByte_self _ f _)).trans (expand_packMask hcan)

theorem extractLsb'_high_append_low (w : Word16) : w.extractLsb' 8 8 ++ w.extractLsb' 0 8 = w :=
  (BitVec.extractLsb'_append_extractLsb'_eq_extractLsb' rfl).trans BitVec.extractLsb'_eq_self

theorem markLow_eq_self {w : Vector Bool 16} (h : ∀ k : Fin 16, k.val < 8 → w[k] = true) : markLow w = w :=
  vec_ext fun k => by
    rw [Fin.getElem_fin, markLow_getElem w k k.isLt]
    by_cases hk : k.val < 8
    · simpa [hk] using (h k hk).symm
    · simp [hk]

theorem markHigh_eq_self {w : Vector Bool 16} (h : ∀ k : Fin 16, 8 ≤ k.val → w[k] = true) : markHigh w = w :=
  vec_ext fun k => by
    rw [Fin.getElem_fin, markHigh_getElem w k k.isLt]
    by_cases hk : 8 ≤ k.val
    · simpa [hk] using (h k hk).symm
    · simp [hk]

/-- Writing a written field with its own bits changes nothing. -/
theorem writeFlagByte_flagByte {c : Context} {f : FlagField} (h : ∀ i : Lane, c.written (f.element i) = true) :
    c.writeFlagByte f (c.flagByte f) = c := by
  have hlow (w : Vector Bool 16) (hw : ∀ i : Lane, w[i.val] = true) (k : Fin 16) (hk : k.val < 8) : w[k] = true :=
    hw ⟨k, hk⟩
  have hhigh (w : Vector Bool 16) (hw : ∀ i : Lane, w[8 + i.val] = true) (k : Fin 16) (hk : 8 ≤ k.val) :
      w[k] = true := by
    have hi := hw ⟨k.val - 8, by omega⟩
    simpa [Nat.add_sub_cancel' hk] using hi
  cases f with
  | co => simp only [Context.writeFlagByte, Context.flagByte, extractLsb'_high_append_low, markLow_eq_self (hlow _ h)]
  | ne => simp only [Context.writeFlagByte, Context.flagByte, extractLsb'_high_append_low, markHigh_eq_self (hhigh _ h)]
  | lt => simp only [Context.writeFlagByte, Context.flagByte, extractLsb'_high_append_low, markLow_eq_self (hlow _ h)]
  | ge => simp only [Context.writeFlagByte, Context.flagByte, extractLsb'_high_append_low, markHigh_eq_self (hhigh _ h)]
  | ce =>
    have hce : Vector.replicate 8 true = c.wvce := vec_ext fun i => (Vector.getElem_replicate i.isLt).trans (h i).symm
    simp only [Context.writeFlagByte, Context.flagByte, hce]

theorem flagByte_wroteVr (s : State) (r : VReg) (v : Vec) (f : FlagField) :
    (wroteVr s r v).ctx.flagByte f = s.ctx.flagByte f := by
  cases f <;> rfl

theorem written_flag_wroteVr (s : State) (r : VReg) (v : Vec) (f : FlagField) (k : Lane) :
    (wroteVr s r v).ctx.written (f.element k) = s.ctx.written (f.element k) := by
  cases f <;> rfl

/-- XWR of a field from the expanded form of the same field changes nothing. -/
theorem IsExpandedWrite.exec_of_expanded {i : Instr} {f : FlagField} {r : VReg} {s : State}
    (hi : IsExpandedWrite i f r) (hfull : FullVr s.ctx r) (hr : s.ctx.vr[r] = expand (s.ctx.flagByte f))
    (hw : ∀ k : Lane, s.ctx.written (f.element k) = true) : exec i s = .next (drove s {}) := by
  have hmask : s.ctx.readMask r = .ok (s.ctx.flagByte f) := by
    rw [readMask_of_canonical hfull (by rw [hr]; exact canonical_expand _), hr, packMask_expand]
  rw [hi.exec_of_ok hmask, writeFlagByte_flagByte hw]
  rfl

/-- XRD of two fields to two registers, then XWR of each field from its register, leaves the flags as they are. -/
theorem execAll_expand_both {i j i' j' : Instr} {f g : FlagField} {a b : VReg} {s : State} (hne : a ≠ b)
    (hi : IsExpandedRead i f a) (hj : IsExpandedRead j g b) (hi' : IsExpandedWrite i' f a)
    (hj' : IsExpandedWrite j' g b) (hf : ∀ k : Lane, s.ctx.written (f.element k) = true)
    (hg : ∀ k : Lane, s.ctx.written (g.element k) = true) (rest : List Instr) :
    execAll (i :: j :: i' :: j' :: rest) s =
      execAll rest (wroteVr (wroteVr s a (expand (s.ctx.flagByte f))) b (expand (s.ctx.flagByte g))) := by
  have hread := hi.exec_of_written hf
  have hread' := hj.exec_of_written (s := wroteVr s a (expand (s.ctx.flagByte f))) fun k => by
    rw [written_flag_wroteVr, hg]
  rw [flagByte_wroteVr] at hread'
  generalize ht : wroteVr (wroteVr s a (expand (s.ctx.flagByte f))) b (expand (s.ctx.flagByte g)) = t at hread'
  have hflag (f' : FlagField) : t.ctx.flagByte f' = s.ctx.flagByte f' := by
    rw [← ht, flagByte_wroteVr, flagByte_wroteVr]
  have hmark (f' : FlagField) (k : Lane) : t.ctx.written (f'.element k) = s.ctx.written (f'.element k) := by
    rw [← ht, written_flag_wroteVr, written_flag_wroteVr]
  have hfullb : FullVr t.ctx b := by
    rw [← ht]
    exact fullVr_wroteVr_self _ _ _
  have hfulla : FullVr t.ctx a := fun k => by
    rw [← ht, wroteVr_wvr_of_ne hne]
    exact fullVr_wroteVr_self _ _ _ k
  have hvrb : t.ctx.vr[b] = expand (t.ctx.flagByte g) := by rw [hflag, ← ht, wroteVr_vr_self]
  have hvra : t.ctx.vr[a] = expand (t.ctx.flagByte f) := by
    rw [hflag, ← ht, wroteVr_vr_of_ne hne, wroteVr_vr_self]
  have hdrove : drove t {} = t := by rw [← ht]; rfl
  have hwrite := hi'.exec_of_expanded hfulla hvra fun k => by rw [hmark, hf]
  have hwrite' := hj'.exec_of_expanded hfullb hvrb fun k => by rw [hmark, hg]
  rw [hdrove] at hwrite hwrite'
  rw [execAll_cons hread, execAll_cons hread', execAll_cons hwrite, execAll_cons hwrite']

/-- The same with one field. -/
theorem execAll_expand_one {i i' : Instr} {f : FlagField} {a : VReg} {s : State} (hi : IsExpandedRead i f a)
    (hi' : IsExpandedWrite i' f a) (hf : ∀ k : Lane, s.ctx.written (f.element k) = true) (rest : List Instr) :
    execAll (i :: i' :: rest) s = execAll rest (wroteVr s a (expand (s.ctx.flagByte f))) := by
  have hwrite := hi'.exec_of_expanded (fullVr_wroteVr_self s a (expand (s.ctx.flagByte f)))
    (by rw [wroteVr_vr_self, flagByte_wroteVr]) fun k => by rw [written_flag_wroteVr, hf]
  rw [execAll_cons (hi.exec_of_written hf), execAll_cons hwrite]
  rfl

end Sys2Proof.Machine

namespace Sys2Proof.Claims
open Sys2Proof.Machine

/-- Settles O28: each write marks what the read needs, and the port value is placed back as it came. -/
theorem storeRoundTrips : Obligations.StoreRoundTrips := by
  unfold Obligations.StoreRoundTrips
  intro r k s
  refine ⟨⟨_, exec_vwrite r s, ?_⟩, ⟨_, exec_accwrl k s, ?_⟩, ⟨_, exec_accwr s, ?_⟩⟩
  · have hread := exec_vread_of_ok (readVr_ok (fullVr_wroteVr_self s r (bitsVec s.din.v)))
    rw [wroteVr_vr_self, vecBits_bitsVec] at hread
    exact hread
  · have hread := exec_accrdl_of_ok (lane := k) (s := { s with
      ctx := s.ctx.writeAccLanes (lanes fun i => if i = k then some s.din.a else none), dout := {} })
      (require_single_ok (written_acc_writeAccLanes (by simp)))
    rw [accLane_writeAccLanes] at hread
    simpa [drove] using hread
  · have hread := exec_accrd_of_ok (s := { s with ctx := s.ctx.writeAccLanes (accOfPort s.din.acc), dout := {} })
      (require_acc_ok fun i => written_acc_writeAccLanes (by simp [accOfPort_getElem]))
    rw [accPort_writeAccLanes] at hread
    exact hread

/-- Settles O29: the value of a concatenation, twice. -/
theorem accumulatorLaneValue : Obligations.AccumulatorLaneValue := by
  unfold Obligations.AccumulatorLaneValue
  exact fun c i => accWord_toInt c.accH[i] c.accM[i] c.accL[i]

/-- Settles O37: each command applies its lane function to a lane twice. -/
theorem sameRegisterRule : Obligations.SameRegisterRule := by
  unfold Obligations.SameRegisterRule
  intro r s hr
  refine ⟨exec_vcopy_of_ok (readVr_ok hr), (isLanewise_vand r r).exec_self hr _ fun k => BitVec.and_self,
    (isLanewise_vor r r).exec_self hr _ fun k => BitVec.or_self, (isLanewise_vxor r r).exec_self hr _ fun k => ?_,
    (isLanewise_vcmplt r r).exec_self hr _ fun k => ?_, (isLanewise_vcmpeq r r).exec_self hr _ fun k => ?_,
    (isLanewise_vcmpgt r r).exec_self hr _ fun k => ?_⟩
  · exact BitVec.xor_self.trans (Vector.getElem_replicate k.isLt).symm
  · simp [maskLt, bool16, zero]
  · simp [maskEq, bool16, ones]
  · simp [maskGt, bool16, zero]

/-- Settles O41: VFILL and VXOR complement the mask of the opposite compare. -/
theorem pseudoInstructionsCompute : Obligations.PseudoInstructionsCompute := by
  unfold Obligations.PseudoInstructionsCompute
  refine ⟨fun p rel vd vs vt s hmem hne hd hs => ?_, fun vd vt s hne hd => ?_, fun vd vs s hs => ?_,
    fun vd s => ?_, fun vd vs s hd hs => ?_⟩
  · simp only [List.mem_cons, Prod.mk.injEq, List.not_mem_nil, or_false] at hmem
    rcases hmem with ⟨rfl, rfl⟩ | ⟨rfl, rfl⟩ | ⟨rfl, rfl⟩
    · obtain ⟨t, ht, hk, hrest⟩ := execAll_compare_complement (rel := fun a b => decide (a < b))
        (isLanewise_vcmplt vd vs) hne hd hs
      exact ⟨_, t, if_pos (bne_iff_ne.2 hne), ht, fun k => by simpa using hk k, hrest⟩
    · obtain ⟨t, ht, hk, hrest⟩ := execAll_compare_complement (rel := fun a b => decide (b < a))
        (isLanewise_vcmpgt vd vs) hne hd hs
      exact ⟨_, t, if_pos (bne_iff_ne.2 hne), ht, fun k => by simpa using hk k, hrest⟩
    · obtain ⟨t, ht, hk, hrest⟩ := execAll_compare_complement (rel := fun a b => decide (a = b))
        (isLanewise_vcmpeq vd vs) hne hd hs
      exact ⟨_, t, if_pos (bne_iff_ne.2 hne), ht, fun k => by simpa using hk k, hrest⟩
  · obtain ⟨t, ht, hcomp⟩ := execAll_complement hne hd
    exact ⟨_, t, if_pos (bne_iff_ne.2 hne), ht, hcomp⟩
  · exact ⟨_, rfl, execAll_cons (exec_vcopy_of_ok (readVr_ok hs)) []⟩
  · exact ⟨_, rfl, execAll_cons (exec_vwipe vd s) []⟩
  · refine ⟨expandPseudo_eq_none (bne_self_eq_false vd), expandPseudo_eq_none (bne_self_eq_false vd),
      expandPseudo_eq_none (bne_self_eq_false vd), expandPseudo_eq_none (bne_self_eq_false vd), fun i hi => ?_⟩
    have hmem : i ∈ elementwise vd vs := by
      simp only [List.mem_cons, List.not_mem_nil, or_false] at hi
      rcases hi with rfl | rfl | rfl <;> simp [elementwise]
    obtain ⟨f, hf⟩ := elementwise_lane_function hmem
    obtain ⟨v, hv, -⟩ := hf s hd hs
    rw [execAll_cons hv]
    exact execAll_fill_xor_self vd _

/-- Settles O44: a row of the default table sends each lane it selects to itself. -/
theorem defaultShuffleIdempotent : Obligations.DefaultShuffleIdempotent := by
  unfold Obligations.DefaultShuffleIdempotent
  intro v e
  have hlane {w : Vec} (k : Lane) : (shuffle Config.defaultElementRows w e)[k] =
      w[(elementRow Config.defaultElementRows e)[k]] := shuffle_getElem _ w e k k.isLt
  refine vec_ext fun i => ?_
  rw [hlane, hlane, hlane]
  exact congrArg (fun k : Lane => v[k]) (defaultElementRow_idempotent e i)

/-- Settles O50: XRD of a field gives the form that XWR packs back to the same bits. -/
theorem expandedRoundTrip : Obligations.ExpandedRoundTrip := by
  unfold Obligations.ExpandedRoundTrip
  refine ⟨fun vs vd s hfull hcan p hp => ?_, fun a b s hne => ⟨?_, ?_, ?_⟩⟩
  · simp only [List.mem_cons, List.not_mem_nil, or_false] at hp
    rcases hp with rfl | rfl | rfl | rfl | rfl
    · exact execAll_xwr_xrd (isExpandedWrite_xwrCo vs) (isExpandedRead_xrdCo vd) hfull hcan
    · exact execAll_xwr_xrd (isExpandedWrite_xwrNe vs) (isExpandedRead_xrdNe vd) hfull hcan
    · exact execAll_xwr_xrd (isExpandedWrite_xwrLt vs) (isExpandedRead_xrdLt vd) hfull hcan
    · exact execAll_xwr_xrd (isExpandedWrite_xwrGe vs) (isExpandedRead_xrdGe vd) hfull hcan
    · exact execAll_xwr_xrd (isExpandedWrite_xwrCe vs) (isExpandedRead_xrdCe vd) hfull hcan
  · rw [execAll_cons (exec_setvco s), execAll_expand_both hne (isExpandedRead_xrdCo a) (isExpandedRead_xrdNe b)
      (isExpandedWrite_xwrCo a) (isExpandedWrite_xwrNe b) (fun k => Vector.getElem_replicate _)
      (fun k => Vector.getElem_replicate _)]
    exact ⟨_, execAll_cons (isPackedRead_getvco.exec_of_written fun k => Vector.getElem_replicate _) [], rfl, rfl⟩
  · rw [execAll_cons (exec_setvcc s), execAll_expand_both hne (isExpandedRead_xrdLt a) (isExpandedRead_xrdGe b)
      (isExpandedWrite_xwrLt a) (isExpandedWrite_xwrGe b) (fun k => Vector.getElem_replicate _)
      (fun k => Vector.getElem_replicate _)]
    exact ⟨_, execAll_cons (isPackedRead_getvcc.exec_of_written fun k => Vector.getElem_replicate _) [], rfl, rfl⟩
  · rw [execAll_cons (exec_setvce s), execAll_expand_one (isExpandedRead_xrdCe a) (isExpandedWrite_xwrCe a)
      (fun k => Vector.getElem_replicate _), ← zero_append_vceOfPort]
    exact ⟨_, execAll_cons (isPackedRead_getvce.exec_of_written fun k => Vector.getElem_replicate _) [], rfl, rfl⟩

end Sys2Proof.Claims
end

section
/-! The state image (spec/20_memory.md R53, R54): when it exists, the byte at each offset, and the restore by commands
in any order. -/
namespace Sys2Proof.Machine
open Sys2Proof.Claims

/-! When the image exists (R53). -/

theorem mem_imageElements (el : Element) : el ∈ imageElements := by
  cases el <;> simp [imageElements, vrElements, accElements, vcoElements, vccElements, vceElements]

theorem require_image_ok_iff (c : Context) : c.require imageElements = .ok () ↔ c.AllWritten :=
  (require_ok_iff c imageElements).trans ⟨fun h el => h el (mem_imageElements el), fun h el _ => h el⟩

theorem takeImage_of_allWritten {c : Context} (h : c.AllWritten) :
    c.takeImage = .ok (Vector.ofFn fun k => imageByte c k.val) := by
  rw [Context.takeImage, (require_image_ok_iff c).2 h]
  rfl

/-- The image exists, or taking it reports an unwritten element. -/
theorem takeImage_cases (c : Context) :
    (c.AllWritten ∧ c.takeImage = .ok (Vector.ofFn fun k => imageByte c k.val)) ∨
      ∃ el, c.written el = false ∧ c.takeImage = .error (.readBeforeWrite el) := by
  rcases require_cases c imageElements with hok | ⟨el, -, hel, herr⟩
  · have hall := (require_image_ok_iff c).1 hok
    exact .inl ⟨hall, takeImage_of_allWritten hall⟩
  · refine .inr ⟨el, hel, ?_⟩
    rw [Context.takeImage, herr]
    rfl

theorem takeImage_ok {c : Context} {img : Image} (h : c.takeImage = .ok img) :
    c.AllWritten ∧ img = Vector.ofFn fun k => imageByte c k.val := by
  rcases takeImage_cases c with ⟨hall, hok⟩ | ⟨el, -, herr⟩
  · exact ⟨hall, Except.ok.inj (h.symm.trans hok)⟩
  · cases h.symm.trans herr

/-! The byte at each offset (R53). -/

theorem vecByteAt_even (v : Vec) (i : Lane) : vecByteAt v (2 * i.val) = v[i].extractLsb' 8 8 := by
  have hlane : 2 * i.val / 2 % 8 = i.val := by omega
  simp only [vecByteAt, byteAt, hlane, Nat.mul_mod_right, if_true]
  rfl

theorem vecByteAt_odd (v : Vec) (i : Lane) : vecByteAt v (2 * i.val + 1) = v[i].extractLsb' 0 8 := by
  have hlane : (2 * i.val + 1) / 2 % 8 = i.val := by omega
  have hodd : (2 * i.val + 1) % 2 ≠ 0 := by omega
  simp only [vecByteAt, byteAt, hlane, hodd, if_false]
  rfl

section
variable (c : Context)

theorem imageByte_vr (r : VReg) {j : Nat} (hj : j < 16) : imageByte c (16 * r.val + j) = vecByteAt c.vr[r] j := by
  have hlt : 16 * r.val + j < 512 := by omega
  have hreg : (16 * r.val + j) / 16 % 32 = r.val := by omega
  have hoff : (16 * r.val + j) % 16 = j := by omega
  simp only [imageByte, hlt, if_true, hreg, hoff]
  rfl

theorem imageByte_accH {j : Nat} (hj : j < 16) : imageByte c (512 + j) = vecByteAt c.accH j := by
  simp (disch := omega) only [imageByte, if_neg, if_pos, Nat.add_sub_cancel_left]

theorem imageByte_accM {j : Nat} (hj : j < 16) : imageByte c (528 + j) = vecByteAt c.accM j := by
  simp (disch := omega) only [imageByte, if_neg, if_pos, Nat.add_sub_cancel_left]

theorem imageByte_accL {j : Nat} (hj : j < 16) : imageByte c (544 + j) = vecByteAt c.accL j := by
  simp (disch := omega) only [imageByte, if_neg, if_pos, Nat.add_sub_cancel_left]

theorem imageByte_vco {j : Nat} (hj : j < 2) : imageByte c (560 + j) = byteAt c.vco j := by
  simp (disch := omega) only [imageByte, if_neg, if_pos, Nat.add_sub_cancel_left]

theorem imageByte_vcc {j : Nat} (hj : j < 2) : imageByte c (562 + j) = byteAt c.vcc j := by
  simp (disch := omega) only [imageByte, if_neg, if_pos, Nat.add_sub_cancel_left]

theorem imageByte_vce : imageByte c 564 = c.vce := by
  simp (disch := omega) only [imageByte, if_neg]

end

/-- Two bytes of a vector in the image are a lane, high byte first. -/
theorem lane_of_bytes {byte : Nat → Byte} {base : Nat} {v : Vec} (h : ∀ j < 16, byte (base + j) = vecByteAt v j)
    (i : Lane) : byte (base + 2 * i.val) ++ byte (base + 2 * i.val + 1) = v[i] := by
  rw [h (2 * i.val) (by omega), Nat.add_assoc, h (2 * i.val + 1) (by omega), vecByteAt_even, vecByteAt_odd,
    extractLsb'_high_append_low]

theorem word_of_bytes {byte : Nat → Byte} {base : Nat} {w : Word16} (h : ∀ j < 2, byte (base + j) = byteAt w j) :
    byte base ++ byte (base + 1) = w := by
  have hhigh : byte base = byteAt w 0 := h 0 (by decide)
  rw [hhigh, h 1 (by decide)]
  exact extractLsb'_high_append_low w

/-! The restore (R54): the parts of an image, the command of each, and what it writes. -/

/-- The parts of an image that one command of a restore writes. -/
inductive ImagePart where
  | vr (r : VReg)
  | acc
  | vco
  | vcc
  | vce

/-- The command that restores a part. -/
def ImagePart.command (img : Image) : ImagePart → Request
  | .vr r => restoreVr img r
  | .acc => hostCommand .accwr
      { acc := accPort (imageVec img 512 (by decide)) (imageVec img 528 (by decide)) (imageVec img 544 (by decide)) }
  | .vco => hostCommand .setvco { p := imageWord img 560 (by decide) }
  | .vcc => hostCommand .setvcc { p := imageWord img 562 (by decide) }
  | .vce => hostCommand .setvce { p := (img[564]).zeroExtend 16 }

theorem mem_restoreCommands_iff (img : Image) (x : Request) :
    x ∈ restoreCommands img ↔ ∃ p : ImagePart, x = p.command img := by
  constructor
  · intro h
    simp only [restoreCommands, List.mem_append, List.mem_map, List.mem_finRange, true_and, List.mem_cons,
      List.not_mem_nil, or_false] at h
    rcases h with ⟨r, rfl⟩ | rfl | rfl | rfl | rfl
    · exact ⟨.vr r, rfl⟩
    · exact ⟨.acc, rfl⟩
    · exact ⟨.vco, rfl⟩
    · exact ⟨.vcc, rfl⟩
    · exact ⟨.vce, rfl⟩
  · rintro ⟨p, rfl⟩
    cases p <;> simp [restoreCommands, ImagePart.command]

/-- The context after a part is restored. -/
def ImagePart.write (img : Image) (c : Context) : ImagePart → Context
  | .vr r => c.writeVr r (imageVec img (16 * r.val) (by omega))
  | .acc => c.writeAccLanes (accOfPort
      (accPort (imageVec img 512 (by decide)) (imageVec img 528 (by decide)) (imageVec img 544 (by decide))))
  | .vco => c.writeVco (imageWord img 560 (by decide))
  | .vcc => c.writeVcc (imageWord img 562 (by decide))
  | .vce => c.writeVce img[564]

/-- The context holds the image's values in a part, and their marks are set. -/
def ImagePart.Restored (img : Image) (c : Context) : ImagePart → Prop
  | .vr r => c.vr[r] = imageVec img (16 * r.val) (by omega) ∧ FullVr c r
  | .acc => (c.accH = imageVec img 512 (by decide) ∧ c.accM = imageVec img 528 (by decide) ∧
      c.accL = imageVec img 544 (by decide)) ∧ ∀ i : Lane, c.wacc[i] = true
  | .vco => c.vco = imageWord img 560 (by decide) ∧ ∀ k : Fin 16, c.wvco[k] = true
  | .vcc => c.vcc = imageWord img 562 (by decide) ∧ ∀ k : Fin 16, c.wvcc[k] = true
  | .vce => c.vce = img[564] ∧ ∀ k : Fin 8, c.wvce[k] = true

/-- A host's command that is next in the list executes its instruction with its data on the ports. -/
theorem step_of_hostCommand {i : Instr} {w : Word32} {din : DataIn} {s : State} {rest : List Request}
    (he : encode i = .command w) (hd : decodeCommand w = .ok i) (hp : s.pending = hostCommand i din :: rest) :
    step s = exec i { s with din := din, pending := rest } := by
  rw [hostCommand, he] at hp
  exact step_of_fetch_ok (r := requestOf din (.command w)) hp hd

theorem accOfPort_accPort (h m l : Vec) (k : Nat) (hk : k < 8) :
    (accOfPort (accPort h m l))[k] = some (accWord h[k] m[k] l[k]) := by
  obtain ⟨hh, hm, hl⟩ := accPort_extract h m l
  simp [accOfPort, hh, hm, hl]

theorem vceOfPort_zeroExtend (b : BitVec 8) : vceOfPort (b.zeroExtend 16) = b := by
  rw [zeroExtend_eq_zero_append]
  exact BitVec.extractLsb'_append_eq_right

/-- The command of a part writes that part, and no record. -/
theorem step_restore (img : Image) (p : ImagePart) {s : State} {rest : List Request}
    (hp : s.pending = p.command img :: rest) :
    ∃ t, step s = .next t ∧ t.ctx = p.write img s.ctx ∧ t.fault = s.fault ∧ t.refused = s.refused ∧
      t.pending = rest := by
  cases p with
  | vr r =>
    refine ⟨_, (step_of_hostCommand rfl (decodeCommand_rd _ rfl) hp).trans (exec_vwrite r _), ?_, rfl, rfl, rfl⟩
    exact congrArg (s.ctx.writeVr r) (bitsVec_vecBits _)
  | acc => exact ⟨_, (step_of_hostCommand rfl rfl hp).trans (exec_accwr _), rfl, rfl, rfl, rfl⟩
  | vco => exact ⟨_, (step_of_hostCommand rfl rfl hp).trans (exec_setvco _), rfl, rfl, rfl, rfl⟩
  | vcc => exact ⟨_, (step_of_hostCommand rfl rfl hp).trans (exec_setvcc _), rfl, rfl, rfl, rfl⟩
  | vce =>
    refine ⟨_, (step_of_hostCommand rfl rfl hp).trans (exec_setvce _), ?_, rfl, rfl, rfl⟩
    exact congrArg s.ctx.writeVce (vceOfPort_zeroExtend _)

theorem restored_write (img : Image) (c : Context) (p : ImagePart) : p.Restored img (p.write img c) := by
  cases p with
  | vr r =>
    exact ⟨Vector.getElem_set_self r.isLt, fun i => (set_replicate_getElem c.wvr r r i).trans (by simp)⟩
  | acc =>
    refine ⟨⟨vec_ext fun i => ?_, vec_ext fun i => ?_, vec_ext fun i => ?_⟩, fun i =>
      written_acc_writeAccLanes (by simp [accOfPort_accPort])⟩ <;> simp [ImagePart.write, accOfPort_accPort]
  | vco => exact ⟨rfl, fun k => Vector.getElem_replicate k.isLt⟩
  | vcc => exact ⟨rfl, fun k => Vector.getElem_replicate k.isLt⟩
  | vce => exact ⟨rfl, fun k => Vector.getElem_replicate k.isLt⟩

/-- A restored part stays restored while parts are restored. -/
theorem restored_write_of_restored {img : Image} {c : Context} {q : ImagePart} (p : ImagePart)
    (h : q.Restored img c) : q.Restored img (p.write img c) := by
  cases q with
  | vr r =>
    cases p with
    | vr r' =>
      by_cases hr : r = r'
      · subst hr
        exact restored_write img c (.vr r)
      · have hne : r'.val ≠ r.val := fun e => hr (Fin.ext e.symm)
        obtain ⟨hv, hw⟩ := h
        refine ⟨(Vector.getElem_set_ne r'.isLt r.isLt hne).trans hv, fun i => ?_⟩
        exact (set_replicate_getElem c.wvr r' r i).trans (by rw [hw i, Bool.or_true])
    | acc | vco | vcc | vce => exact h
  | acc =>
    cases p with
    | acc => exact restored_write img c .acc
    | vr | vco | vcc | vce => exact h
  | vco =>
    cases p with
    | vco => exact restored_write img c .vco
    | vr | acc | vcc | vce => exact h
  | vcc =>
    cases p with
    | vcc => exact restored_write img c .vcc
    | vr | acc | vco | vce => exact h
  | vce =>
    cases p with
    | vce => exact restored_write img c .vce
    | vr | acc | vco | vcc => exact h

/-- A run of restoring commands restores the part of each, and keeps the parts that were restored before it. -/
theorem runToEnd_restores (img : Image) (cmds : List Request) :
    ∀ s : State, s.pending = cmds → (∀ x ∈ cmds, ∃ p : ImagePart, x = p.command img) →
      ∃ t, s.runToEnd = .next t ∧ t.fault = s.fault ∧ t.refused = s.refused ∧
        ∀ q : ImagePart, q.command img ∈ cmds ∨ q.Restored img s.ctx → q.Restored img t.ctx := by
  induction cmds with
  | nil =>
    intro s hp _
    exact ⟨s, runToEnd_of_nil hp, rfl, rfl, fun q hq => hq.resolve_left List.not_mem_nil⟩
  | cons x rest ih =>
    intro s hp hall
    obtain ⟨p, rfl⟩ := hall x List.mem_cons_self
    obtain ⟨u, hu, huctx, hufault, hurefused, hupending⟩ := step_restore img p hp
    obtain ⟨t, ht, htfault, htrefused, htparts⟩ := ih u hupending fun y hy => hall y (List.mem_cons_of_mem _ hy)
    refine ⟨t, (runToEnd_of_step hp hu).trans ht, htfault.trans hufault, htrefused.trans hurefused, fun q hq => ?_⟩
    rcases hq with hq | hq
    · rcases List.mem_cons.1 hq with hqp | hqrest
      · obtain ⟨u', hu', huctx', -⟩ := step_restore img q (hqp ▸ hp)
        obtain rfl : u' = u := Host.Outcome.next.inj (hu'.symm.trans hu)
        exact htparts q (.inr (huctx' ▸ restored_write img s.ctx q))
      · exact htparts q (.inl hqrest)
    · exact htparts q (.inr (huctx ▸ restored_write_of_restored p hq))

/-! A context in which every part is restored has the image. -/

theorem byteAt_imageWord (img : Image) {base j : Nat} (h : base + 1 < 565) (hj : j < 2) :
    byteAt (imageWord img base h) j = img[base + j] := by
  have hcases : j = 0 ∨ j = 1 := by omega
  rcases hcases with rfl | rfl
  · exact BitVec.extractLsb'_append_eq_left
  · exact BitVec.extractLsb'_append_eq_right

theorem vecByteAt_imageVec (img : Image) {base j : Nat} (h : base + 15 < 565) (hj : j < 16) :
    vecByteAt (imageVec img base h) j = img[base + j] := by
  have hlane : j / 2 % 8 = j / 2 := by omega
  simp only [vecByteAt, imageVec, lanes_getElem, hlane, byteAt, imageWord]
  split
  next heven =>
    have hidx : base + 2 * (j / 2) = base + j := by omega
    simp only [BitVec.extractLsb'_append_eq_left, hidx]
  next hodd =>
    have hidx : base + 2 * (j / 2) + 1 = base + j := by omega
    simp only [BitVec.extractLsb'_append_eq_right, hidx]

theorem imageByte_of_restored {img : Image} {c : Context} (h : ∀ q : ImagePart, q.Restored img c) {k : Nat}
    (hk : k < 565) : imageByte c k = img[k] := by
  obtain ⟨⟨haccH, haccM, haccL⟩, -⟩ := h .acc
  have hpart : k < 512 ∨ (512 ≤ k ∧ k < 528) ∨ (528 ≤ k ∧ k < 544) ∨ (544 ≤ k ∧ k < 560) ∨ (560 ≤ k ∧ k < 562) ∨
      (562 ≤ k ∧ k < 564) ∨ k = 564 := by omega
  rcases hpart with hvr | ⟨hlo, hhi⟩ | ⟨hlo, hhi⟩ | ⟨hlo, hhi⟩ | ⟨hlo, hhi⟩ | ⟨hlo, hhi⟩ | rfl
  · obtain ⟨r, j, hj, rfl⟩ : ∃ (r : VReg) (j : Nat), j < 16 ∧ k = 16 * r.val + j :=
      ⟨⟨k / 16, by omega⟩, k % 16, by omega, (Nat.div_add_mod k 16).symm⟩
    rw [imageByte_vr c r hj, (h (.vr r)).1, vecByteAt_imageVec img _ hj]
  · obtain ⟨j, rfl⟩ := Nat.exists_eq_add_of_le hlo
    rw [imageByte_accH c (by omega), haccH, vecByteAt_imageVec img _ (by omega)]
  · obtain ⟨j, rfl⟩ := Nat.exists_eq_add_of_le hlo
    rw [imageByte_accM c (by omega), haccM, vecByteAt_imageVec img _ (by omega)]
  · obtain ⟨j, rfl⟩ := Nat.exists_eq_add_of_le hlo
    rw [imageByte_accL c (by omega), haccL, vecByteAt_imageVec img _ (by omega)]
  · obtain ⟨j, rfl⟩ := Nat.exists_eq_add_of_le hlo
    rw [imageByte_vco c (by omega), (h .vco).1, byteAt_imageWord img _ (by omega)]
  · obtain ⟨j, rfl⟩ := Nat.exists_eq_add_of_le hlo
    rw [imageByte_vcc c (by omega), (h .vcc).1, byteAt_imageWord img _ (by omega)]
  · rw [imageByte_vce, (h .vce).1]

theorem takeImage_of_restored {img : Image} {c : Context} (h : ∀ q : ImagePart, q.Restored img c) :
    c.takeImage = .ok img := by
  have hall : c.AllWritten := fun el => by
    cases el with
    | vr r i => exact (h (.vr r)).2 i
    | acc i => exact (h .acc).2 i
    | vco k => exact (h .vco).2 k
    | vcc k => exact (h .vcc).2 k
    | vce k => exact (h .vce).2 k
  rw [takeImage_of_allWritten hall]
  exact congrArg Except.ok (vec_ext fun k => (Vector.getElem_ofFn k.isLt).trans (imageByte_of_restored h k.isLt))

end Sys2Proof.Machine

namespace Sys2Proof.Claims
open Sys2Proof.Machine

/-- Settles O58: the elements the image needs are all elements, and its bytes stand where R53 puts them. -/
theorem imageLayout : Obligations.ImageLayout := by
  unfold Obligations.ImageLayout
  intro c
  refine ⟨⟨fun ⟨img, h⟩ => (takeImage_ok h).1, fun h => ⟨_, takeImage_of_allWritten h⟩⟩, fun hnot => ?_,
    fun img h => ?_⟩
  · rcases takeImage_cases c with ⟨hall, -⟩ | hel
    · exact absurd hall hnot
    · exact hel
  · obtain ⟨-, rfl⟩ := takeImage_ok h
    simp only [Vector.getElem_ofFn]
    exact ⟨fun r => lane_of_bytes fun j => imageByte_vr c r,
      fun i => ⟨lane_of_bytes (fun j => imageByte_accH c) i, lane_of_bytes (fun j => imageByte_accM c) i,
        lane_of_bytes (fun j => imageByte_accL c) i⟩,
      word_of_bytes fun j => imageByte_vco c, word_of_bytes fun j => imageByte_vcc c, imageByte_vce c⟩

/-- Settles O59, by induction on the list: each command restores its part whatever was restored before it. -/
theorem imageRestoresInAnyOrder : Obligations.ImageRestoresInAnyOrder := by
  unfold Obligations.ImageRestoresInAnyOrder
  intro img s hperm
  obtain ⟨t, ht, hfault, hrefused, hparts⟩ := runToEnd_restores img s.pending s rfl fun x hx =>
    (mem_restoreCommands_iff img x).1 (hperm.mem_iff.1 hx)
  refine ⟨t, ht, takeImage_of_restored fun q => hparts q (.inl ?_), hfault, hrefused⟩
  exact hperm.mem_iff.2 ((mem_restoreCommands_iff img _).2 ⟨q, rfl⟩)

end Sys2Proof.Claims
end

section
/-! The save of the state image by commands (spec/20_memory.md R53): each read command by what it needs, drives and
gives, a list of reads as one guarded read, and the bytes of the whole list. -/
namespace Sys2Proof.Machine
open Sys2Proof.Claims

/-! One read of a save. -/

/-- A read of a save with the elements it needs, the ports it drives and the image bytes on them. -/
structure ReadSpec where
  read : ImageRead
  els : List Element
  out : DataOut
  bytes : List Byte

/-- The read does in `s`, whatever the output ports hold, what its specification says. -/
structure ReadSpec.Holds (x : ReadSpec) (s : State) : Prop where
  isCommand : ∃ w, encode x.read.1 = .command w
  of_ok : s.ctx.require x.els = .ok () → ∀ o, exec x.read.1 (drove s o) = .next (drove s x.out)
  of_error : ∀ f, s.ctx.require x.els = .error f → ∀ o, exec x.read.1 (drove s o) = .next (s.raise f)
  driven : x.read.2 x.out = some x.bytes
  undriven : ∀ f, x.read.2 (s.raise f).dout = none

def readSpecVr (c : Context) (r : VReg) : ReadSpec where
  read := readImageVr r
  els := vrElements r
  out := { v := some (vecBits c.vr[r]) }
  bytes := bytesOf 16 (vecBits c.vr[r])

def readSpecAcc (c : Context) : ReadSpec where
  read := (.accrd, fun o => o.acc.map (bytesOf 48))
  els := accElements
  out := { acc := some (accPort c.accH c.accM c.accL) }
  bytes := bytesOf 48 (accPort c.accH c.accM c.accL)

/-- A packed read `i` of `p`, of which the low `n` bytes are the image's. -/
def readSpecPacked (i : Instr) (els : List Element) (n : Nat) (p : Word16) : ReadSpec where
  read := (i, fun o => o.p.map (bytesOf n))
  els := els
  out := { p := some p }
  bytes := bytesOf n p

/-- The reads of a save in the order of the image. -/
def imageReadSpecs (c : Context) : List ReadSpec :=
  (List.finRange 32).map (readSpecVr c) ++
    [readSpecAcc c, readSpecPacked .getvco vcoElements 2 c.vco, readSpecPacked .getvcc vccElements 2 c.vcc,
     readSpecPacked .getvce vceElements 1 (0#8 ++ c.vce)]

theorem readVr_of_require_ok {c : Context} {r : VReg} (h : c.require (vrElements r) = .ok ()) :
    c.readVr r = .ok c.vr[r] := by
  rw [Context.readVr, h]
  rfl

theorem readVr_of_require_error {c : Context} {r : VReg} {f : CommandFault}
    (h : c.require (vrElements r) = .error f) : c.readVr r = .error f := by
  rw [Context.readVr, h]
  rfl

theorem holds_readSpecVr (s : State) (r : VReg) : (readSpecVr s.ctx r).Holds s where
  isCommand := ⟨_, rfl⟩
  of_ok h _ := exec_vread_of_ok (readVr_of_require_ok h)
  of_error _ h _ := exec_vread_of_error (readVr_of_require_error h)
  driven := rfl
  undriven _ := rfl

theorem holds_readSpecAcc (s : State) : (readSpecAcc s.ctx).Holds s where
  isCommand := ⟨_, rfl⟩
  of_ok h _ := exec_accrd_of_ok h
  of_error _ h _ := exec_accrd_of_error h
  driven := rfl
  undriven _ := rfl

theorem IsPackedRead.holds {i : Instr} {m : Nat} {el : Fin m → Element} {p : Context → Word16}
    (hi : IsPackedRead i el p) (hc : ∃ w, encode i = .command w) (n : Nat) (s : State) :
    (readSpecPacked i ((List.finRange m).map el) n (p s.ctx)).Holds s where
  isCommand := hc
  of_ok h o := by
    have hreq : (drove s o).ctx.require ((List.finRange m).map el) = .ok () := h
    exact (hi _).trans (by rw [hreq]; rfl)
  of_error f h o := by
    have hreq : (drove s o).ctx.require ((List.finRange m).map el) = .error f := h
    exact (hi _).trans (by rw [hreq]; rfl)
  driven := rfl
  undriven _ := rfl

theorem holds_imageReadSpecs (s : State) : ∀ x ∈ imageReadSpecs s.ctx, x.Holds s := by
  intro x hx
  simp only [imageReadSpecs, List.mem_append, List.mem_map, List.mem_finRange, true_and, List.mem_cons,
    List.not_mem_nil, or_false] at hx
  rcases hx with ⟨r, rfl⟩ | rfl | rfl | rfl | rfl
  · exact holds_readSpecVr s r
  · exact holds_readSpecAcc s
  · exact isPackedRead_getvco.holds ⟨_, rfl⟩ 2 s
  · exact isPackedRead_getvcc.holds ⟨_, rfl⟩ 2 s
  · exact isPackedRead_getvce.holds ⟨_, rfl⟩ 1 s

/-! A list of reads. -/

theorem require_append (c : Context) (a b : List Element) :
    c.require (a ++ b) = (c.require a >>= fun _ => c.require b) := by
  simp only [Context.require, List.find?_append]
  cases a.find? (fun el => !c.written el) <;> rfl

/-- Every command of the host executes its instruction (O2). -/
theorem issue_command {i : Instr} {w : Word32} (s : State) (he : encode i = .command w) :
    s.issue (hostCommand i s.din) = exec i s := by
  have hd := decodeOfEncode i
  rw [he] at hd
  exact issue_hostCommand s he hd

/-- A list of reads is one guarded read of all they need: it gives the bytes of all, or ends with the first fault. -/
theorem readBytes_specs (s : State) (specs : List ReadSpec) : ∀ o : DataOut, (∀ x ∈ specs, x.Holds s) →
    (s.ctx.require (specs.flatMap ReadSpec.els) = .ok () → (drove s o).readBytes (specs.map ReadSpec.read) =
      .next (drove s (specs.foldl (fun _ x => x.out) o), some (specs.flatMap ReadSpec.bytes))) ∧
    (∀ f, s.ctx.require (specs.flatMap ReadSpec.els) = .error f →
      (drove s o).readBytes (specs.map ReadSpec.read) = .next (s.raise f, none)) := by
  induction specs with
  | nil => exact fun o _ => ⟨fun _ => rfl, fun f h => by cases h⟩
  | cons x rest ih =>
    intro o hall
    have hx := hall x List.mem_cons_self
    obtain ⟨ihok, iherror⟩ := ih x.out fun y hy => hall y (List.mem_cons_of_mem x hy)
    obtain ⟨w, hw⟩ := hx.isCommand
    have hissue := issue_command (drove s o) hw
    simp only [List.flatMap_cons, List.map_cons, List.foldl_cons, require_append]
    rcases hreq : s.ctx.require x.els with f | ⟨⟩
    · refine ⟨fun h => (by cases h), fun f' h => ?_⟩
      obtain rfl : f = f' := Except.error.inj h
      exact readBytes_undriven (hissue.trans (hx.of_error f hreq o)) (hx.undriven f)
    · have hnext := hissue.trans (hx.of_ok hreq o)
      exact ⟨fun h => readBytes_driven hnext hx.driven (ihok h),
        fun f h => readBytes_driven hnext hx.driven (iherror f h)⟩

theorem imageReadSpecs_read (c : Context) : (imageReadSpecs c).map ReadSpec.read = imageReads := by
  simp only [imageReadSpecs, imageReads, List.map_append, List.map_map]
  rfl

theorem imageReadSpecs_els (c : Context) : (imageReadSpecs c).flatMap ReadSpec.els = imageElements := by
  simp only [imageReadSpecs, imageElements, List.flatMap_append, List.flatMap_map, List.flatMap_cons, List.flatMap_nil,
    List.append_nil, List.append_assoc]
  rfl

theorem imageReadSpecs_out (c : Context) (o : DataOut) :
    (imageReadSpecs c).foldl (fun _ x => x.out) o = { p := some (0#8 ++ c.vce) } := by
  rw [imageReadSpecs, List.foldl_append]
  rfl

theorem require_of_takeImage_error {c : Context} {f : CommandFault} (h : c.takeImage = .error f) :
    c.require imageElements = .error f := by
  rw [Context.takeImage] at h
  rcases hreq : c.require imageElements with f' | ⟨⟩
  · rw [hreq] at h
    exact congrArg Except.error (Except.error.inj h)
  · rw [hreq] at h
    cases h

/-! The bytes of the whole list. -/

theorem map_range_add {α : Type} (f : Nat → α) (m n : Nat) :
    (List.range (m + n)).map f = (List.range m).map f ++ (List.range n).map fun j => f (m + j) := by
  rw [List.range_add, List.map_append, List.map_map]
  rfl

/-- The port bytes of a concatenation are those of its parts, the high part's first. -/
theorem bytesOf_append {m n : Nat} (x : BitVec (8 * m)) (y : BitVec (8 * n)) :
    bytesOf (m + n) (x ++ y) = bytesOf m x ++ bytesOf n y := by
  rw [bytesOf, map_range_add]
  congr 1
  · refine List.map_congr_left fun k hk => ?_
    rw [List.mem_range] at hk
    rw [BitVec.extractLsb'_append_eq_of_le (by omega)]
    congr 1
    omega
  · refine List.map_congr_left fun k hk => ?_
    rw [List.mem_range] at hk
    rw [BitVec.extractLsb'_append_eq_of_add_le (by omega)]
    congr 1
    omega

theorem bytesOf_accPort (h m l : Vec) :
    bytesOf 48 (accPort h m l) = bytesOf 16 (vecBits h) ++ bytesOf 16 (vecBits m) ++ bytesOf 16 (vecBits l) :=
  (bytesOf_append (m := 32) (n := 16) (vecBits h ++ vecBits m) (vecBits l)).trans
    (congrArg (· ++ bytesOf 16 (vecBits l)) (bytesOf_append (m := 16) (n := 16) (vecBits h) (vecBits m)))

/-- The port bytes of a vector are its bytes in the image. -/
theorem bytesOf_vecBits_eq {byte : Nat → Byte} {base : Nat} {v : Vec} (h : ∀ j < 16, byte (base + j) = vecByteAt v j) :
    bytesOf 16 (vecBits v) = (List.range 16).map fun j => byte (base + j) := by
  rw [bytesOf_vecBits]
  exact List.map_congr_left fun j hj => (h j (List.mem_range.1 hj)).symm

/-- The port bytes of a packed register are its bytes in the image. -/
theorem bytesOf_word_eq {byte : Nat → Byte} {base : Nat} {w : Word16} (h : ∀ j < 2, byte (base + j) = byteAt w j) :
    bytesOf 2 w = (List.range 2).map fun j => byte (base + j) := by
  have hword : bytesOf 2 w = (List.range 2).map (byteAt w) := rfl
  rw [hword]
  exact List.map_congr_left fun j hj => (h j (List.mem_range.1 hj)).symm

/-- Blocks of `k`, one after the other. -/
theorem map_range_mul {α : Type} (f : Nat → α) (k n : Nat) :
    (List.range (k * n)).map f = (List.range n).flatMap fun i => (List.range k).map fun j => f (k * i + j) := by
  induction n with
  | zero => rfl
  | succ n ih =>
    rw [Nat.mul_succ, map_range_add, ih, List.range_succ, List.flatMap_append, List.flatMap_singleton]

theorem bytesOf_registers (c : Context) :
    (List.finRange 32).flatMap (fun r => bytesOf 16 (vecBits c.vr[r])) = (List.range (16 * 32)).map (imageByte c) := by
  have hreg (r : VReg) : bytesOf 16 (vecBits c.vr[r]) = (List.range 16).map fun j => imageByte c (16 * r.val + j) :=
    bytesOf_vecBits_eq fun j => imageByte_vr c r
  rw [map_range_mul, ← List.map_coe_finRange_eq_range (n := 32), List.flatMap_map]
  simp only [hreg]

theorem bytesOf_vce (c : Context) :
    bytesOf 1 (0#8 ++ c.vce) = (List.range 1).map fun j => imageByte c (564 + j) := by
  have hlow : (0#8 ++ c.vce).extractLsb' 0 8 = c.vce := BitVec.extractLsb'_append_eq_right
  simp [bytesOf, hlow, imageByte_vce]

/-- The reads give the 565 bytes of the image in its order. -/
theorem imageReadSpecs_bytes (c : Context) :
    (imageReadSpecs c).flatMap ReadSpec.bytes = (List.range 565).map (imageByte c) := by
  have hspecs : (imageReadSpecs c).flatMap ReadSpec.bytes =
      (List.finRange 32).flatMap (fun r => bytesOf 16 (vecBits c.vr[r])) ++
        (bytesOf 48 (accPort c.accH c.accM c.accL) ++
          (bytesOf 2 c.vco ++ (bytesOf 2 c.vcc ++ bytesOf 1 (0#8 ++ c.vce)))) := by
    rw [imageReadSpecs, List.flatMap_append, List.flatMap_map]
    simp only [List.flatMap_cons, List.flatMap_nil, List.append_nil]
    rfl
  rw [hspecs, bytesOf_registers, bytesOf_accPort, bytesOf_vecBits_eq fun j => imageByte_accH c,
    bytesOf_vecBits_eq fun j => imageByte_accM c, bytesOf_vecBits_eq fun j => imageByte_accL c,
    bytesOf_word_eq fun j => imageByte_vco c, bytesOf_word_eq fun j => imageByte_vcc c, bytesOf_vce,
    show 565 = 16 * 32 + 16 + 16 + 16 + 2 + 2 + 1 from rfl, map_range_add, map_range_add, map_range_add, map_range_add,
    map_range_add, map_range_add]
  simp only [List.append_assoc, Nat.reduceMul, Nat.reduceAdd]

theorem imageOfBytes_imageReadSpecs (c : Context) :
    imageOfBytes ((imageReadSpecs c).flatMap ReadSpec.bytes) = some (Vector.ofFn fun k => imageByte c k.val) := by
  rw [imageReadSpecs_bytes]
  exact imageOfBytes_map_range rfl _

end Sys2Proof.Machine

namespace Sys2Proof.Claims
open Sys2Proof.Machine

/-- Settles O60: the reads of a save together need what the image needs and give its bytes. -/
theorem saveImageRule : Obligations.SaveImageRule := by
  unfold Obligations.SaveImageRule
  intro s
  have hreads := readBytes_specs s (imageReadSpecs s.ctx) s.dout (holds_imageReadSpecs s)
  rw [imageReadSpecs_read, imageReadSpecs_els, imageReadSpecs_out] at hreads
  obtain ⟨hok, herror⟩ := hreads
  refine ⟨fun img h => ?_, fun f h => ?_⟩
  · obtain ⟨hall, rfl⟩ := takeImage_ok h
    rw [State.saveImage, show s.readBytes imageReads = _ from hok ((require_image_ok_iff s.ctx).2 hall)]
    simp only [Option.bind_some, imageOfBytes_imageReadSpecs]
  · rw [State.saveImage, show s.readBytes imageReads = _ from herror f (require_of_takeImage_error h)]
    rfl

end Sys2Proof.Claims
end
